-- ==== Sys2Proof/Word.lean ====
section
/-! DEFINITION. The 16-bit word of the CN1601 (spec/00_scope.md R5, R7, R8): every register, every memory word, every
address and every instruction is one. -/

namespace Sys2Proof

/-- A 16-bit pattern (R8). Bit 0 is the least significant bit (R7). -/
abbrev Word := BitVec 16

/-- An 8-bit pattern: half a word (R73), or one level for each of the eight interrupt pins (R205). -/
abbrev Half := BitVec 8

end Sys2Proof
end

