-- ==== Sys2Proof/Syntax.lean ====
section
/-! DEFINITION. The 39 instructions of the CN1601 (spec/00_scope.md R2), one constructor for each row of
spec/opcode_table.json, with the operands of 30_encoding.md R101. An operand has exactly the values its field has, so
every term of `Instr` is an instruction an assembler can write. -/

namespace Sys2Proof

/-- A general register R0..R7 of the current bank (R21). -/
inductive Reg where
  | r0 | r1 | r2 | r3 | r4 | r5 | r6 | r7
deriving DecidableEq, Repr

/-- A coprocessor number 0..7 (R5); also the number of an external interrupt source (R191). -/
inductive CpNum where
  | cp0 | cp1 | cp2 | cp3 | cp4 | cp5 | cp6 | cp7
deriving DecidableEq, Repr

/-- A control register C0..C31, by the names of 10_state.md R27. -/
inductive CtlReg where
  /-- C0..C7: the user bank (R28). -/
  | user (r : Reg)
  | epc | epcsaved | status
  | ifaulthdl | dfaulthdl | swihdl | illophdl | privophdl
  /-- C16..C23: EXI0HDL..EXI7HDL (R39). -/
  | exihdl (n : CpNum)
  | ienable | ipend | iack | umcpen | counterLo | counterHi | c30 | c31
deriving DecidableEq, Repr

/-- The instructions, in the order of 30_encoding.md R103. -/
inductive Instr where
  -- OP3: R_dest, R_arg1, R_arg2
  | or (d a b : Reg)
  | and (d a b : Reg)
  | nor (d a b : Reg)
  | xor (d a b : Reg)
  | add (d a b : Reg)
  | sub (d a b : Reg)
  | addc (d a b : Reg)
  | subc (d a b : Reg)
  | shl (d a b : Reg)
  | shr (d a b : Reg)
  | shra (d a b : Reg)
  -- OP1 imm8: R_targ, val
  | li (t : Reg) (val : BitVec 8)
  | shlli (t : Reg) (val : BitVec 8)
  | inci (t : Reg) (val : BitVec 8)
  | deci (t : Reg) (val : BitVec 8)
  | andi (t : Reg) (val : BitVec 8)
  | ori (t : Reg) (val : BitVec 8)
  | nori (t : Reg) (val : BitVec 8)
  | xori (t : Reg) (val : BitVec 8)
  -- OP1 imm4 and OP1 none
  | shli (t : Reg) (val : BitVec 4)
  | shri (t : Reg) (val : BitVec 4)
  | shrai (t : Reg) (val : BitVec 4)
  | lhswp (t : Reg)
  -- OP0 branch, OP1 branch, OP1 jump
  | ba (off : BitVec 11)
  | bal (off : BitVec 11)
  | bz (t : Reg) (off : BitVec 8)
  | bnz (t : Reg) (off : BitVec 8)
  | jr (t : Reg) (off : BitVec 8)
  | jlr (t : Reg) (off : BitVec 8)
  -- OP2 mem: R_val, R_addr, off
  | ldw (v a : Reg) (off : BitVec 5)
  | stw (v a : Reg) (off : BitVec 5)
  | sc (v a : Reg) (off : BitVec 5)
  -- OP2 cp and OP1 cpop
  | mfcp (d : Reg) (n : CpNum) (r : BitVec 5)
  | mtcp (src : Reg) (n : CpNum) (r : BitVec 5)
  | cpop (p : Reg) (n : CpNum)
  -- OP0 arg, OP0 none, OP1 ctl
  | int (arg : BitVec 11)
  | rfi
  | mfctl (d : Reg) (c : CtlReg)
  | mtctl (src : Reg) (c : CtlReg)
deriving DecidableEq, Repr

end Sys2Proof
end

