-- ==== Sys2Proof/WellFormed.lean ====
section
/-! DEFINITION. Which instruction words are well formed: the row table of spec/30_encoding.md R103 written as it stands
there (match, mask, must-be-zero bits), independently of the decoder, which follows the procedure of R108.

A term of `Instr` needs no check of its own: each operand's type has exactly the values of its field (R101, R102). What can
be ill formed is a word: one that no row selects (R105), or one with a one in a must-be-zero field of its row (R106). -/

namespace Sys2Proof.WellFormed

/-- One row of R103: `w` is of this row where `w & mask = value`; an assembler writes zeros in `mbz`. -/
structure Row where
  name : String
  value : Word
  mask : Word
  mbz : Word
deriving DecidableEq, Repr

/-- The rows selected by a major opcode and a two-bit subcode (R103, the OP3 rows). -/
def rowsOp3 : List Row :=
  [ ⟨"or", 0x0000, 0xf803, 0⟩, ⟨"and", 0x0001, 0xf803, 0⟩, ⟨"nor", 0x0002, 0xf803, 0⟩, ⟨"xor", 0x0003, 0xf803, 0⟩,
    ⟨"add", 0x0800, 0xf803, 0⟩, ⟨"sub", 0x0801, 0xf803, 0⟩, ⟨"addc", 0x0802, 0xf803, 0⟩, ⟨"subc", 0x0803, 0xf803, 0⟩,
    ⟨"shl", 0x1000, 0xf803, 0⟩, ⟨"shr", 0x1001, 0xf803, 0⟩, ⟨"shra", 0x1002, 0xf803, 0⟩ ]

/-- The rows of the immediate group (R103, OP1 imm8, imm4 and none). -/
def rowsImm : List Row :=
  [ ⟨"li", 0x1800, 0xf800, 0⟩, ⟨"shlli", 0x2000, 0xf800, 0⟩, ⟨"inci", 0x2800, 0xf800, 0⟩, ⟨"deci", 0x3000, 0xf800, 0⟩,
    ⟨"andi", 0x3800, 0xf800, 0⟩, ⟨"ori", 0x4000, 0xf800, 0⟩, ⟨"nori", 0x4800, 0xf800, 0⟩, ⟨"xori", 0x5000, 0xf800, 0⟩,
    ⟨"shli", 0x5800, 0xf800, 0x00f0⟩, ⟨"shri", 0x6000, 0xf800, 0x00f0⟩, ⟨"shrai", 0x6800, 0xf800, 0x00f0⟩,
    ⟨"lhswp", 0x7000, 0xf800, 0x00ff⟩ ]

/-- The remaining rows of R103: branches, memory, coprocessor, privilege and control. -/
def rowsRest : List Row :=
  [ ⟨"ba", 0x7800, 0xf800, 0⟩, ⟨"bal", 0x8000, 0xf800, 0⟩, ⟨"bz", 0x8800, 0xf800, 0⟩, ⟨"bnz", 0x9000, 0xf800, 0⟩,
    ⟨"jr", 0x9800, 0xf800, 0⟩, ⟨"jlr", 0xa000, 0xf800, 0⟩, ⟨"ldw", 0xa800, 0xf800, 0⟩, ⟨"stw", 0xb000, 0xf800, 0⟩,
    ⟨"sc", 0xc000, 0xf800, 0⟩, ⟨"mfcp", 0xc800, 0xf800, 0⟩, ⟨"mtcp", 0xd000, 0xf800, 0⟩, ⟨"cpop", 0xd800, 0xf800, 0x001f⟩,
    ⟨"int", 0xe000, 0xf800, 0⟩, ⟨"rfi", 0xe800, 0xf800, 0x07ff⟩, ⟨"mfctl", 0xf000, 0xf800, 0x00e0⟩,
    ⟨"mtctl", 0xf800, 0xf800, 0x00e0⟩ ]

/-- The 39 rows of R103. -/
def rows : List Row := rowsOp3 ++ rowsImm ++ rowsRest

/-- The row selects the word (R103). -/
def selects (w : Word) (r : Row) : Bool := w &&& r.mask == r.value

/-- The row's must-be-zero bits are zero in the word (R106). -/
def mbzClear (w : Word) (r : Row) : Bool := w &&& r.mbz == 0

/-- Some row selects the word: it is not one of the unassigned words of R105. -/
def assigned (w : Word) : Bool := rows.any (selects w)

/-- The word is an instruction an assembler may write: a row selects it and its must-be-zero bits are zero. -/
def word (w : Word) : Bool := rows.any (fun r => selects w r && mbzClear w r)

end Sys2Proof.WellFormed
end

