-- ==== Sys2Proof/Decode.lean ====
section
/-! DEFINITION. Decoding, by the procedure of spec/30_encoding.md R108 with the fields of R101 and R102, and after it the
encoder, from the figures of R101 and the opcodes of R103. -/

namespace Sys2Proof

/-- The register a 3-bit field names (R21). -/
def Reg.ofBits (b : BitVec 3) : Reg :=
  match b.toNat with
  | 0 => .r0 | 1 => .r1 | 2 => .r2 | 3 => .r3 | 4 => .r4 | 5 => .r5 | 6 => .r6 | _ => .r7

/-- The 3-bit field that names a register. -/
def Reg.bits : Reg → BitVec 3
  | .r0 => 0 | .r1 => 1 | .r2 => 2 | .r3 => 3 | .r4 => 4 | .r5 => 5 | .r6 => 6 | .r7 => 7

/-- The coprocessor a 3-bit `cpnum` field names (R102). -/
def CpNum.ofBits (b : BitVec 3) : CpNum :=
  match b.toNat with
  | 0 => .cp0 | 1 => .cp1 | 2 => .cp2 | 3 => .cp3 | 4 => .cp4 | 5 => .cp5 | 6 => .cp6 | _ => .cp7

/-- The number of a coprocessor or interrupt source. -/
def CpNum.bits : CpNum → BitVec 3
  | .cp0 => 0 | .cp1 => 1 | .cp2 => 2 | .cp3 => 3 | .cp4 => 4 | .cp5 => 5 | .cp6 => 6 | .cp7 => 7

/-- The control register a 5-bit `cnum` field names, by the map of R27. -/
def CtlReg.ofBits (c : BitVec 5) : CtlReg :=
  let low := c.extractLsb' 0 3
  match (c.extractLsb' 3 2).toNat with
  | 0 => .user (Reg.ofBits low)
  | 1 =>
    match low.toNat with
    | 0 => .epc | 1 => .epcsaved | 2 => .status | 3 => .ifaulthdl
    | 4 => .dfaulthdl | 5 => .swihdl | 6 => .illophdl | _ => .privophdl
  | 2 => .exihdl (CpNum.ofBits low)
  | _ =>
    match low.toNat with
    | 0 => .ienable | 1 => .ipend | 2 => .iack | 3 => .umcpen
    | 4 => .counterLo | 5 => .counterHi | 6 => .c30 | _ => .c31

/-- The number of a control register, by the map of R27. -/
def CtlReg.bits : CtlReg → BitVec 5
  | .user r => 0b00#2 ++ r.bits
  | .epc => 8 | .epcsaved => 9 | .status => 10 | .ifaulthdl => 11
  | .dfaulthdl => 12 | .swihdl => 13 | .illophdl => 14 | .privophdl => 15
  | .exihdl n => 0b10#2 ++ n.bits
  | .ienable => 24 | .ipend => 25 | .iack => 26 | .umcpen => 27
  | .counterLo => 28 | .counterHi => 29 | .c30 => 30 | .c31 => 31

/-- What a word decodes to (R108). -/
inductive Decoded where
  /-- An instruction, its must-be-zero bits zero. -/
  | ok (i : Instr)
  /-- A word a row selects, with a one in the row's must-be-zero field; `i` is what it is with those bits zero (R106). -/
  | mustBeZero (i : Instr)
  /-- A word no row selects (R105). -/
  | unassigned
deriving DecidableEq, Repr

/-- Step (5) of R108: the row's must-be-zero field against zero. -/
def checkZero (zero : Bool) (i : Instr) : Decoded := if zero then .ok i else .mustBeZero i

/-- The decoding procedure of R108. -/
def decode (w : Word) : Decoded :=
  let d := Reg.ofBits (w.extractLsb' 8 3)
  let a := Reg.ofBits (w.extractLsb' 5 3)
  let b := Reg.ofBits (w.extractLsb' 2 3)
  let n := CpNum.ofBits (w.extractLsb' 5 3)
  let c := CtlReg.ofBits (w.extractLsb' 0 5)
  let v4 := w.extractLsb' 0 4
  let v5 := w.extractLsb' 0 5
  let v8 := w.extractLsb' 0 8
  let v11 := w.extractLsb' 0 11
  match (w.extractLsb' 11 5).toNat with
  | 0 =>
    match (w.extractLsb' 0 2).toNat with
    | 0 => .ok (.or d a b) | 1 => .ok (.and d a b) | 2 => .ok (.nor d a b) | _ => .ok (.xor d a b)
  | 1 =>
    match (w.extractLsb' 0 2).toNat with
    | 0 => .ok (.add d a b) | 1 => .ok (.sub d a b) | 2 => .ok (.addc d a b) | _ => .ok (.subc d a b)
  | 2 =>
    match (w.extractLsb' 0 2).toNat with
    | 0 => .ok (.shl d a b) | 1 => .ok (.shr d a b) | 2 => .ok (.shra d a b) | _ => .unassigned
  | 3 => .ok (.li d v8)
  | 4 => .ok (.shlli d v8)
  | 5 => .ok (.inci d v8)
  | 6 => .ok (.deci d v8)
  | 7 => .ok (.andi d v8)
  | 8 => .ok (.ori d v8)
  | 9 => .ok (.nori d v8)
  | 10 => .ok (.xori d v8)
  | 11 => checkZero (w.extractLsb' 4 4 == 0) (.shli d v4)
  | 12 => checkZero (w.extractLsb' 4 4 == 0) (.shri d v4)
  | 13 => checkZero (w.extractLsb' 4 4 == 0) (.shrai d v4)
  | 14 => checkZero (w.extractLsb' 0 8 == 0) (.lhswp d)
  | 15 => .ok (.ba v11)
  | 16 => .ok (.bal v11)
  | 17 => .ok (.bz d v8)
  | 18 => .ok (.bnz d v8)
  | 19 => .ok (.jr d v8)
  | 20 => .ok (.jlr d v8)
  | 21 => .ok (.ldw d a v5)
  | 22 => .ok (.stw d a v5)
  | 23 => .unassigned
  | 24 => .ok (.sc d a v5)
  | 25 => .ok (.mfcp d n v5)
  | 26 => .ok (.mtcp d n v5)
  | 27 => checkZero (w.extractLsb' 0 5 == 0) (.cpop d n)
  | 28 => .ok (.int v11)
  | 29 => checkZero (w.extractLsb' 0 11 == 0) .rfi
  | 30 => checkZero (w.extractLsb' 5 3 == 0) (.mfctl d c)
  | _ => checkZero (w.extractLsb' 5 3 == 0) (.mtctl d c)

/-- The instruction the decoder reads from a table word of `nbits` bits; the bits above `nbits` are zero. One 16-bit word
is the whole of every instruction (R101). `none` for an unassigned word and for a must-be-zero violation. -/
def decodeTableWord (nbits w : Nat) : Option Instr :=
  match decode (BitVec.ofNat 16 (w % 2 ^ nbits)) with
  | .ok i => some i
  | .mustBeZero _ => none
  | .unassigned => none

/-! The encoder. -/

/-- OP3 (R101): major opcode, three registers, subcode. -/
def encodeOp3 (op : BitVec 5) (sub : BitVec 2) (d a b : Reg) : Word := op ++ (d.bits ++ (a.bits ++ (b.bits ++ sub)))

/-- OP1 with an 8-bit field (R101). -/
def encodeOp1 (op : BitVec 5) (t : Reg) (val : BitVec 8) : Word := op ++ (t.bits ++ val)

/-- OP1 imm4 (R101): bits 7..4 zero. -/
def encodeImm4 (op : BitVec 5) (t : Reg) (val : BitVec 4) : Word := op ++ (t.bits ++ (0#4 ++ val))

/-- OP0 (R101): an 11-bit field. -/
def encodeOp0 (op : BitVec 5) (val : BitVec 11) : Word := op ++ val

/-- OP2 and its relatives (R101): a register, a 3-bit field, a 5-bit field. -/
def encodeOp2 (op : BitVec 5) (r : Reg) (mid : BitVec 3) (low : BitVec 5) : Word := op ++ (r.bits ++ (mid ++ low))

/-- The word of an instruction (R101, R103), must-be-zero fields zero (R106). -/
def encode : Instr → Word
  | .or d a b => encodeOp3 0b00000 0b00 d a b
  | .and d a b => encodeOp3 0b00000 0b01 d a b
  | .nor d a b => encodeOp3 0b00000 0b10 d a b
  | .xor d a b => encodeOp3 0b00000 0b11 d a b
  | .add d a b => encodeOp3 0b00001 0b00 d a b
  | .sub d a b => encodeOp3 0b00001 0b01 d a b
  | .addc d a b => encodeOp3 0b00001 0b10 d a b
  | .subc d a b => encodeOp3 0b00001 0b11 d a b
  | .shl d a b => encodeOp3 0b00010 0b00 d a b
  | .shr d a b => encodeOp3 0b00010 0b01 d a b
  | .shra d a b => encodeOp3 0b00010 0b10 d a b
  | .li t val => encodeOp1 0b00011 t val
  | .shlli t val => encodeOp1 0b00100 t val
  | .inci t val => encodeOp1 0b00101 t val
  | .deci t val => encodeOp1 0b00110 t val
  | .andi t val => encodeOp1 0b00111 t val
  | .ori t val => encodeOp1 0b01000 t val
  | .nori t val => encodeOp1 0b01001 t val
  | .xori t val => encodeOp1 0b01010 t val
  | .shli t val => encodeImm4 0b01011 t val
  | .shri t val => encodeImm4 0b01100 t val
  | .shrai t val => encodeImm4 0b01101 t val
  | .lhswp t => encodeOp1 0b01110 t 0
  | .ba off => encodeOp0 0b01111 off
  | .bal off => encodeOp0 0b10000 off
  | .bz t off => encodeOp1 0b10001 t off
  | .bnz t off => encodeOp1 0b10010 t off
  | .jr t off => encodeOp1 0b10011 t off
  | .jlr t off => encodeOp1 0b10100 t off
  | .ldw v a off => encodeOp2 0b10101 v a.bits off
  | .stw v a off => encodeOp2 0b10110 v a.bits off
  | .sc v a off => encodeOp2 0b11000 v a.bits off
  | .mfcp d n r => encodeOp2 0b11001 d n.bits r
  | .mtcp src n r => encodeOp2 0b11010 src n.bits r
  | .cpop p n => encodeOp2 0b11011 p n.bits 0
  | .int arg => encodeOp0 0b11100 arg
  | .rfi => encodeOp0 0b11101 0
  | .mfctl d c => encodeOp2 0b11110 d 0 c.bits
  | .mtctl src c => encodeOp2 0b11111 src 0 c.bits

end Sys2Proof
end

