-- ==== Sys2Proof/Config.lean ====
section
/-! DEFINITION. What an implementation or the platform fixes, and what the spec leaves open: the named parameters of
spec/00_scope.md R6, and the values the environment supplies at each instruction boundary (70_reset_and_hazards.md R267). -/

namespace Sys2Proof.Config

/-- `SHIFT_REG_AMOUNT` (R6, R150, D8): what a register shift amount of 16 or more does. -/
inductive ShiftAmount where
  /-- The shift is carried out mathematically (the spec's default). -/
  | full
  /-- Only bits 3..0 of the amount register are used. -/
  | low4
  /-- The instruction has no meaning for such an amount. -/
  | refuse
deriving DecidableEq, Repr

/-- `MBZ_POLICY` (R6, R106, D5): what a word with a one in a must-be-zero field does. -/
inductive MbzPolicy where
  /-- The word has no meaning (the spec's default). -/
  | refuse
  /-- The word runs as if the bits were zero. -/
  | ignore
  /-- The word raises the illegal-operation exception. -/
  | illegal
deriving DecidableEq, Repr

/-- `COPROC_DENIED_VECTOR` (R6, R209, D11): the handler register of a denied coprocessor access. -/
inductive DeniedVector where
  | illop
  | privop
deriving DecidableEq, Repr

/-- The named parameters of R6 that are not part of the environment. They stand in the state so that a statement about
every state is a statement about every admissible value of them (log 28). -/
structure Params where
  /-- `OVERFLOW_TRAP` (D7): whether `add` and `sub` trap on signed overflow. -/
  overflowTrap : Bool
  shiftAmount : ShiftAmount
  mbzPolicy : MbzPolicy
  coprocDenied : DeniedVector
deriving DecidableEq, Repr

/-- The default of every parameter, as D7, D8, D5 and D11 give it. -/
def defaultParams : Params :=
  { overflowTrap := false, shiftAmount := .full, mbzPolicy := .refuse, coprocDenied := .illop }

/-- What the NVRAM coprocessor does, at one boundary, with an operation under way (R238): the spec does not say when it
completes, and names "out of bounds" as an example only of what makes it fail. -/
inductive NvramAnswer where
  | busy
  | done
  | failed
deriving DecidableEq, Repr, Inhabited

/-- The values one instruction boundary draws from outside the CPU (R267). None of them is constrained. -/
structure Draws where
  /-- The levels of the input pins `INT_0..7` (R205, D14). -/
  irq : Half
  /-- The input pin `LLINVAL` (R92, D15). -/
  llinval : Bool
  /-- What `CVALI` carries if this step reads a coprocessor register (R180, D13, U7). -/
  cvali : Word
  /-- The cycle counter's value at this boundary: COUNTER_HI above COUNTER_LO (R235, D16, U8). -/
  counter : BitVec 32
  /-- The value this step reads wherever the spec says "any value": IACK, C30, C31, and bits 15..8 of IENABLE, IPEND and
  UMCPEN (R45, R46, R47; U3, U4, U6); and what R238 leaves open of the NVRAM's status. -/
  openBits : Word
  /-- The NVRAM's progress, where one is attached (R238). -/
  nvram : NvramAnswer
deriving DecidableEq, Repr, Inhabited

/-- FREE VALUE (logs 4, 13, 14, 15, 17, 18): what the environment shows at the n-th boundary for which the state holds no
scripted input. No body: nothing can be proved of it. -/
opaque environment : Nat → Draws

end Sys2Proof.Config
end

