-- ==== Sys2Proof/Machine/Memory.lean ====
section
/-! DEFINITION. A word-addressed memory as plain data (spec/20_memory.md R71, R72): a list of (address, word) pairs in one
canonical form, addresses strictly rising and no word equal to what an unlisted address reads as. The machine's unit of
storage is the 16-bit word; it has no byte (R72, N1; log 1). -/

namespace Sys2Proof.Machine

/-- One 16-bit word at an address (R71). -/
abbrev Cell := Nat × Word

/-- A memory: the words that differ from `unlisted`, by rising address. -/
abbrev Memory := List Cell

/-- What an unlisted address reads as. The spec gives no contents at reset (R251, N11): DESIGN CHOICE, unsafe (log 2). Every
contents of a memory can be listed, so a statement about all states does not rest on it. -/
def unlisted : Word := 0

/-- The word at an address. -/
def Memory.read : Memory → Nat → Word
  | [], _ => unlisted
  | c :: m, a => if c.1 = a then c.2 else Memory.read m a

/-- Puts a cell before the first cell of a higher address. -/
def Memory.insert (c : Cell) : Memory → Memory
  | [] => [c]
  | x :: m => if c.1 < x.1 then c :: x :: m else x :: Memory.insert c m

/-- Takes every cell at an address away. -/
def Memory.erase : Memory → Nat → Memory
  | [], _ => []
  | c :: m, a => if c.1 = a then Memory.erase m a else c :: Memory.erase m a

/-- Stores a word, keeping the canonical form. -/
def Memory.write (m : Memory) (a : Nat) (v : Word) : Memory :=
  if v = unlisted then m.erase a else (m.erase a).insert (a, v)

/-- Stores several words, one after another. -/
def Memory.writeAll (m : Memory) : List (Word × Word) → Memory
  | [] => m
  | p :: ps => Memory.writeAll (m.write p.1.toNat p.2) ps

/-- The canonical form, for a memory of `size` words. -/
abbrev Memory.wf (size : Nat) (m : Memory) : Prop :=
  m.Pairwise (fun c d => c.1 < d.1) ∧ ∀ c ∈ m, c.1 < size ∧ c.2 ≠ unlisted

end Sys2Proof.Machine
end

