-- ==== Sys2Proof/Machine/State.lean ====
section
/-! DEFINITION. The machine's state (spec/10_state.md R20 to R50), the environment's inputs (70_reset_and_hazards.md R267), the
reasons a step can stop, and the state after reset (R50, R250). Types and `State.reset` only: what is done to them is in the
files beside this one. -/

namespace Sys2Proof.Machine

/-- A bank of eight general registers (R21). -/
structure Bank where
  r0 : Word
  r1 : Word
  r2 : Word
  r3 : Word
  r4 : Word
  r5 : Word
  r6 : Word
  r7 : Word
deriving DecidableEq, Repr

/-- The eight external-interrupt handler registers EXI0HDL..EXI7HDL, C16..C23 (R39). -/
structure Handlers where
  cp0 : Word
  cp1 : Word
  cp2 : Word
  cp3 : Word
  cp4 : Word
  cp5 : Word
  cp6 : Word
  cp7 : Word
deriving DecidableEq, Repr

/-- STATUS (C10, R31). All sixteen bits are fields, so nothing is lost by naming them (log 16): bit 15 `m`, 14 `e`, 13 `u`,
12 `l`, 11 `s`, 10..0 `a`. -/
structure Status where
  /-- M: 1 = user mode (R37). -/
  m : Bool
  /-- E: global interrupt enable (R36). -/
  e : Bool
  /-- U: the mode `rfi` enters (R35). -/
  u : Bool
  /-- L: the link state (R34). -/
  l : Bool
  /-- S: the one-deep save of U (R33). -/
  s : Bool
  /-- A: the argument of the last `int` (R32). -/
  a : BitVec 11
deriving DecidableEq, Repr

/-- What a memory controller does with one request (R75 to R77, U9). -/
inductive BusAnswer where
  /-- `IVALID` / `DVALID`. -/
  | answers
  /-- `IFAULT` / `DFAULT`. -/
  | refuses
  /-- Neither, for ever. -/
  | silent
deriving DecidableEq, Repr

/-- Addresses `first` to `last`, both included, that a memory controller refuses (the fault predicate of D2; log 7). -/
structure Region where
  first : Word
  last : Word
deriving DecidableEq, Repr

/-- What the environment does at one instruction boundary (R267): what it shows on the pins, what the controllers answer to
this step's fetch and to its one data access beside their fixed fault predicates (U16), and the words other masters wrote
to data memory since the boundary before (R87). -/
structure Boundary where
  draws : Config.Draws
  instrBus : BusAnswer
  dataBus : BusAnswer
  busWrites : List (Word × Word)
deriving DecidableEq, Repr

/-- The operations of the NVRAM coprocessor that take time (R238). -/
inductive NvramOp where
  | read
  | write
deriving DecidableEq, Repr

/-- The NVRAM coprocessor (R238): its number and capacity, which the spec does not give; its four registers; its pin; the
operation under way; its contents. DESIGN CHOICE (log 18): the spec gives neither its word width nor what an address counts
(N14); here each address names one 16-bit word, and `size` is the number of such words. -/
structure Nvram where
  number : CpNum
  size : Nat
  status : Word
  addrLo : Word
  addrHi : Word
  value : Word
  int : Bool
  pending : Option NvramOp
  cells : Memory
deriving DecidableEq, Repr

/-- What the CPU drives on its pins (R267, the outputs). -/
inductive Event where
  /-- An instruction fetch that was executed or trapped (R75); discarded fetch-ahead is not represented (U15). -/
  | fetch (addr : Word)
  /-- A data read request, whatever the answer (R76). -/
  | dataRead (addr : Word)
  /-- A data write request, whatever the answer (R77). -/
  | dataWrite (addr v : Word)
  /-- `CpRead` (R180). -/
  | cpRead (n : CpNum) (r : BitVec 5)
  /-- `CpWrite` (R181). -/
  | cpWrite (n : CpNum) (r : BitVec 5) (v : Word)
  /-- `CpExec` (R182). -/
  | cpExec (n : CpNum) (v : Word)
  /-- `Ack(mask)`: a pulse on `ACK_n` for every bit of the mask that is one (R207). -/
  | ack (mask : Half)
deriving DecidableEq, Repr

/-- The causes of a trap (60_exceptions.md R200). -/
inductive Cause where
  | instructionFetchFault
  | dataFault
  | softwareInterrupt (arg : BitVec 11)
  | illegalOperation
  | privilegedOperation
  | coprocessorDisabled (n : CpNum)
  | externalInterrupt (n : CpNum)
  /-- Only where the parameter `OVERFLOW_TRAP` is true (D7). -/
  | arithmeticOverflow
deriving DecidableEq, Repr

/-- The whole machine. -/
structure State where
  /-- `xu[0..7]`, the user bank, also C0..C7 (R20, R28). -/
  xu : Bank
  /-- `xs[0..7]`, the supervisor bank (R20). -/
  xs : Bank
  /-- The program counter, a word address of instruction memory (R24). -/
  pc : Word
  /-- EPC, C8 (R29). -/
  epc : Word
  /-- EPCSAVED, C9 (R30). -/
  epcSaved : Word
  /-- STATUS, C10 (R31). -/
  status : Status
  /-- IFAULTHDL, C11 (R39). -/
  ifaulthdl : Word
  /-- DFAULTHDL, C12 (R39). -/
  dfaulthdl : Word
  /-- SWIHDL, C13 (R39). -/
  swihdl : Word
  /-- ILLOPHDL, C14 (R39). -/
  illophdl : Word
  /-- PRIVOPHDL, C15 (R39). -/
  privophdl : Word
  /-- EXI0HDL..EXI7HDL, C16..C23 (R39). -/
  exihdl : Handlers
  /-- IENABLE, C24 (R40). -/
  ienable : Word
  /-- UMCPEN, C27 (R43). -/
  umcpen : Word
  /-- COUNTER_LO, C28 (R44). -/
  counterLo : Word
  /-- COUNTER_HI, C29 (R44). -/
  counterHi : Word
  /-- Instruction memory (R70). -/
  imem : Memory
  /-- Data memory (R70). -/
  dmem : Memory
  /-- The instruction memory controller's fault predicate (R75, D2). -/
  ifaults : List Region
  /-- The data memory controller's fault predicate (R76, R77, D2). -/
  dfaults : List Region
  /-- The NVRAM coprocessor, where one is attached (R238). -/
  nvram : Option Nvram
  /-- The spec's named parameters (R6). The model's own field. -/
  params : Config.Params
  /-- The environment at the present boundary. The model's own field; `step` loads it. -/
  now : Boundary
  /-- The environment at the coming boundaries, as far as it is scripted, next first. The model's own field. -/
  inputs : List Boundary
  /-- How many boundaries have passed. The model's own field. -/
  boundaries : Nat
  /-- What the CPU has driven on its pins, newest first. The model's own field. -/
  events : List Event
deriving DecidableEq, Repr

/-- Why the machine stops for good. -/
inductive Fault where
  /-- The instruction memory controller never answers the fetch: the CPU stalls for ever (U9, "stuck"). Raised by the fetch
  of a step. Safe: the hardware makes no further step either. -/
  | instructionBusSilent
  /-- The data memory controller never answers the access: the CPU stalls for ever (R76, U9, "stuck"). Raised by ldw, stw
  and sc. Safe: the hardware makes no further step either. -/
  | dataBusSilent
deriving DecidableEq, Repr

/-- Why the model gives a step no meaning. -/
inductive Refusal where
  /-- An instruction whose meaning is not written. Raised by no arm of this model. Safe. -/
  | notModelled (mnemonic : String)
  /-- A word with a one in a must-be-zero field, where `MBZ_POLICY` is `refuse` (R106, D5: "the model assigns such a word
  no behaviour"). Raised by the decoding of a step. Safe. -/
  | mustBeZero
  /-- A register shift amount of 16 or more, where `SHIFT_REG_AMOUNT` is `refuse` (R150, D8). Raised by shl, shr, shra.
  Safe. -/
  | shiftAmount
deriving DecidableEq, Repr

/-- Eight registers cleared (R50). -/
def zeroBank : Bank := ⟨0, 0, 0, 0, 0, 0, 0, 0⟩

/-- Eight handler registers cleared (R50). -/
def zeroHandlers : Handlers := ⟨0, 0, 0, 0, 0, 0, 0, 0⟩

/-- STATUS 0x0000: supervisor mode, interrupts disabled, no link (R50). -/
def zeroStatus : Status := { m := false, e := false, u := false, l := false, s := false, a := 0 }

/-- A boundary at which nothing happens. DESIGN CHOICE where `State.reset` holds it (log 5). -/
def quietBoundary : Boundary :=
  { draws := { irq := 0, llinval := false, cvali := 0, counter := 0, openBits := 0, nvram := .busy },
    instrBus := .answers, dataBus := .answers, busWrites := [] }

/-- The machine right after reset (R50, R250): every register zero, `pc` zero. The memories list nothing, the fault
predicates hold nowhere and no NVRAM is attached (the spec states none of the three; logs 2, 7, 18). No input is scripted,
so every draw from here on is free (log 4). -/
def State.reset : State :=
  { xu := zeroBank, xs := zeroBank, pc := 0, epc := 0, epcSaved := 0, status := zeroStatus,
    ifaulthdl := 0, dfaulthdl := 0, swihdl := 0, illophdl := 0, privophdl := 0, exihdl := zeroHandlers,
    ienable := 0, umcpen := 0, counterLo := 0, counterHi := 0,
    imem := [], dmem := [], ifaults := [], dfaults := [], nvram := none,
    params := Config.defaultParams, now := quietBoundary, inputs := [], boundaries := 0, events := [] }

end Sys2Proof.Machine
end

