-- ==== Sys2Proof/Machine/Nvram.lean ====
section
/-! DEFINITION. The NVRAM coprocessor of spec/60_exceptions.md R238, as a device that may be attached (log 18): its four
registers, its three operations, its status values. What R238 leaves open is a value drawn from the environment (`free`) or a
DESIGN CHOICE, said where it is made and in log 18. -/

namespace Sys2Proof.Machine

/-- The 32-bit address in the two address registers (R238). -/
def Nvram.address (d : Nvram) : Nat := (d.addrHi ++ d.addrLo).toNat

/-- A register read: 0 status, 1 addr low, 2 addr high, 3 value; the device has no others, and what the value register
shows while a read is under way is not given (R238, N14). DESIGN CHOICE (log 18): every other read, also while an operation is
under way, shows what the register holds, and no read has a side effect. -/
def Nvram.readReg (r : BitVec 5) (free : Word) (d : Nvram) : Word :=
  match r.toNat with
  | 0 => d.status
  | 1 => d.addrLo
  | 2 => d.addrHi
  | 3 => if d.pending = some .read then free else d.value
  | _ => free

/-- A register write. DESIGN CHOICE (log 18): it takes effect at once, also while an operation is under way; a write to the
status register stores; a write to a register the device does not have does nothing. -/
def Nvram.writeReg (r : BitVec 5) (v : Word) (d : Nvram) : Nvram :=
  match r.toNat with
  | 0 => { d with status := v }
  | 1 => { d with addrLo := v }
  | 2 => { d with addrHi := v }
  | 3 => { d with value := v }
  | _ => d

/-- An operation: 0 read, 1 write, 2 ack. The status after `ack`, and after any other code, is not given (R238). DESIGN CHOICE
(log 18): a read or write sent while an operation is under way replaces it, with the pin as it was; `ack`, or a code above 2,
sent while one is under way leaves it under way, to complete later. -/
def Nvram.execute (op free : Word) (d : Nvram) : Nvram :=
  match op.toNat with
  | 0 => { d with pending := some .read, status := 1 }
  | 1 => { d with pending := some .write, status := 4 }
  | 2 => { d with int := false, status := free }
  | _ => { d with status := free }

/-- The end of a read: the value and `read ok`, or `read error` when it failed or the address is out of bounds. DESIGN CHOICE
(log 18): the address registers count as they are at completion, and after a read error the value register keeps its
content. -/
def Nvram.finishRead (failed : Bool) (d : Nvram) : Nvram :=
  if failed || d.size ≤ d.address then { d with pending := none, int := true, status := 3 }
  else { d with pending := none, int := true, status := 2, value := d.cells.read d.address }

/-- The end of a write: the cell and `write ok`, or `write error` (C25) when it failed or the address is out of bounds. DESIGN
CHOICE (log 18): the address registers and the value register count as they are at completion, not as they were when the
operation was sent, and a write that fails, in bounds or not, changes no cell. -/
def Nvram.finishWrite (failed : Bool) (d : Nvram) : Nvram :=
  if failed || d.size ≤ d.address then { d with pending := none, int := true, status := 6 }
  else { d with pending := none, int := true, status := 5, cells := d.cells.write d.address d.value }

/-- What the device does at a boundary: nothing, or the end of the operation under way, with its interrupt (R238). DESIGN
CHOICE (log 18): it completes at boundaries only, and may fail in bounds. -/
def Nvram.advance (answer : Config.NvramAnswer) (d : Nvram) : Nvram :=
  match d.pending, answer with
  | none, _ => d
  | some _, .busy => d
  | some .read, .done => d.finishRead false
  | some .read, .failed => d.finishRead true
  | some .write, .done => d.finishWrite false
  | some .write, .failed => d.finishWrite true

/-- A present device does something if it has the number. -/
def Nvram.select (n : CpNum) (f : Nvram → Nvram) (d : Nvram) : Nvram := if d.number = n then f d else d

end Sys2Proof.Machine
end

