-- ==== Sys2Proof/Machine/Operands.lean ====
section
/-! DEFINITION. How operands are built: the immediates of spec/30_encoding.md R102, the effective address of 20_memory.md R78,
the halves of a register (R73), and the shift functions of 42_shift.md R150. -/

namespace Sys2Proof.Machine

/-- An immediate zero-extended to a word (R102: `val8`). -/
def zext {n : Nat} (v : BitVec n) : Word := v.zeroExtend 16

/-- An offset sign-extended to a word (R102: `b_off11`, `b_off8`, `off8`, `off5`). -/
def sext {n : Nat} (v : BitVec n) : Word := v.signExtend 16

/-- The address after the instruction at `pc`, modulo 2^16 (R24, R25). -/
def nextPc (pc : Word) : Word := pc + 1

/-- A base plus a sign-extended word offset, modulo 2^16: branch and jump targets (R25, R160), data addresses (R78). -/
def offsetFrom {n : Nat} (base : Word) (off : BitVec n) : Word := base + sext off

/-- Bits 15..8 of a word. -/
def highHalf (v : Word) : Half := v.extractLsb' 8 8

/-- Bits 7..0 of a word. -/
def lowHalf (v : Word) : Half := v.extractLsb' 0 8

/-- `hi ++ lo` (R7). -/
def joinHalves (hi lo : Half) : Word := hi ++ lo

/-- SHL of R150; zeros for an amount of 16 or more (D8, `full`). -/
def shiftLeft (v : Word) (n : Nat) : Word := v <<< n

/-- SHR of R150; zeros for an amount of 16 or more (D8, `full`). -/
def shiftRight (v : Word) (n : Nat) : Word := v >>> n

/-- SHRA of R150; copies of bit 15 for an amount of 16 or more (D8, `full`). -/
def shiftRightArith (v : Word) (n : Nat) : Word := v.sshiftRight n

end Sys2Proof.Machine
end

