-- ==== Sys2Proof/Machine/Ops.lean ====
section
/-! DEFINITION. The operations the meanings share: registers (spec/10_state.md), memory (20_memory.md), the coprocessor interface
(45_coprocessor_control.md), taking a trap and returning from one (60_exceptions.md R215, R216), and what happens at an
instruction boundary (R210, R212, 70_reset_and_hazards.md R267). -/

namespace Sys2Proof.Machine

/-! ## Register banks -/

/-- A register of a bank. -/
def Bank.get (b : Bank) : Reg → Word
  | .r0 => b.r0 | .r1 => b.r1 | .r2 => b.r2 | .r3 => b.r3 | .r4 => b.r4 | .r5 => b.r5 | .r6 => b.r6 | .r7 => b.r7

/-- A bank with one register replaced. None is hard-wired (R21). -/
def Bank.set (b : Bank) (r : Reg) (v : Word) : Bank :=
  match r with
  | .r0 => { b with r0 := v } | .r1 => { b with r1 := v } | .r2 => { b with r2 := v } | .r3 => { b with r3 := v }
  | .r4 => { b with r4 := v } | .r5 => { b with r5 := v } | .r6 => { b with r6 := v } | .r7 => { b with r7 := v }

/-- EXInHDL (R39). -/
def Handlers.get (h : Handlers) : CpNum → Word
  | .cp0 => h.cp0 | .cp1 => h.cp1 | .cp2 => h.cp2 | .cp3 => h.cp3
  | .cp4 => h.cp4 | .cp5 => h.cp5 | .cp6 => h.cp6 | .cp7 => h.cp7

/-- The handler registers with one replaced. -/
def Handlers.set (h : Handlers) (n : CpNum) (v : Word) : Handlers :=
  match n with
  | .cp0 => { h with cp0 := v } | .cp1 => { h with cp1 := v } | .cp2 => { h with cp2 := v } | .cp3 => { h with cp3 := v }
  | .cp4 => { h with cp4 := v } | .cp5 => { h with cp5 := v } | .cp6 => { h with cp6 := v } | .cp7 => { h with cp7 := v }

/-- `x[r]`: the user bank where STATUS.M = 1, the supervisor bank where it is 0 (R9, R21). -/
def State.reg (s : State) (r : Reg) : Word := if s.status.m then s.xu.get r else s.xs.get r

/-- `x[r] <- v` (R9, R21). -/
def State.setReg (s : State) (r : Reg) (v : Word) : State :=
  { s with xu := if s.status.m then s.xu.set r v else s.xu
           xs := if s.status.m then s.xs else s.xs.set r v }

/-! ## Program counter and link state -/

/-- `pc <- target` (R9). -/
def State.jump (s : State) (target : Word) : State := { s with pc := target }

/-- `pc <- pc + 1` (R24, R25). -/
def State.advance (s : State) : State := s.jump (nextPc s.pc)

/-- The end of an instruction that writes one register and falls through. -/
def State.writeNext (s : State) (r : Reg) (v : Word) : State := (s.setReg r v).advance

/-- `STATUS.L <- b` (R34). -/
def State.setLink (s : State) (b : Bool) : State := { s with status := { s.status with l := b } }

/-- Something the CPU drives on its pins (R267). -/
def State.emit (s : State) (e : Event) : State := { s with events := e :: s.events }

/-! ## STATUS as a word -/

/-- The sixteen bits of STATUS, in the places of R31. -/
def Status.toWord (t : Status) : Word :=
  BitVec.ofBool t.m ++ (BitVec.ofBool t.e ++ (BitVec.ofBool t.u ++ (BitVec.ofBool t.l ++ (BitVec.ofBool t.s ++ t.a))))

/-- STATUS from its sixteen bits (R31, R38). -/
def Status.ofWord (w : Word) : Status :=
  { m := w.getLsbD 15, e := w.getLsbD 14, u := w.getLsbD 13, l := w.getLsbD 12, s := w.getLsbD 11, a := w.extractLsb' 0 11 }

/-! ## Interrupt pins -/

/-- The level of `INT_n` in a sample. -/
def pinLevel (pins : Half) (n : CpNum) : Bool := pins.getLsbD n.bits.toNat

/-- The level of input pin `INT_n`, which is `IPEND[n]` (R41): an attached NVRAM drives its own pin (R191, R238), the
environment the others (D14). -/
def State.pin (s : State) (n : CpNum) : Bool :=
  match s.nvram with
  | none => pinLevel s.now.draws.irq n
  | some d => if d.number = n then d.int else pinLevel s.now.draws.irq n

/-- The eight pins as the low half of IPEND (R41). -/
def State.pins (s : State) : Half :=
  BitVec.ofBool (s.pin .cp7) ++ (BitVec.ofBool (s.pin .cp6) ++ (BitVec.ofBool (s.pin .cp5) ++ (BitVec.ofBool (s.pin .cp4) ++
    (BitVec.ofBool (s.pin .cp3) ++ (BitVec.ofBool (s.pin .cp2) ++ (BitVec.ofBool (s.pin .cp1) ++ BitVec.ofBool (s.pin .cp0)))))))

/-- A bit of a register that has one bit for each source or coprocessor: IENABLE (R40), UMCPEN (R43). -/
def numberedBit (w : Word) (n : CpNum) : Bool := w.getLsbD n.bits.toNat

/-- Source `n` is deliverable: enabled and pending (R206). -/
def State.deliverable (s : State) (n : CpNum) : Bool := numberedBit s.ienable n && s.pin n

/-- The highest-numbered deliverable source (R210, R213, D19). -/
def State.highestDeliverable (s : State) : Option CpNum :=
  if s.deliverable .cp7 then some .cp7 else if s.deliverable .cp6 then some .cp6
  else if s.deliverable .cp5 then some .cp5 else if s.deliverable .cp4 then some .cp4
  else if s.deliverable .cp3 then some .cp3 else if s.deliverable .cp2 then some .cp2
  else if s.deliverable .cp1 then some .cp1 else if s.deliverable .cp0 then some .cp0 else none

/-- The external interrupt taken at this boundary, if any: only where STATUS.E = 1 (R210). -/
def State.acceptedInterrupt (s : State) : Option CpNum := if s.status.e then s.highestDeliverable else none

/-! ## Control registers -/

/-- What `mfctl` reads (R187). Where the spec says "any value" it is the boundary's free `openBits`: IACK, C30, C31 (R45, R46;
log 15) and bits 15..8 of IENABLE, IPEND, UMCPEN (R47, U4; log 14). -/
def State.readCtl (s : State) : CtlReg → Word
  | .user r => s.xu.get r
  | .epc => s.epc
  | .epcsaved => s.epcSaved
  | .status => s.status.toWord
  | .ifaulthdl => s.ifaulthdl
  | .dfaulthdl => s.dfaulthdl
  | .swihdl => s.swihdl
  | .illophdl => s.illophdl
  | .privophdl => s.privophdl
  | .exihdl n => s.exihdl.get n
  | .ienable => joinHalves (highHalf s.now.draws.openBits) (lowHalf s.ienable)
  | .ipend => joinHalves (highHalf s.now.draws.openBits) s.pins
  | .iack => s.now.draws.openBits
  | .umcpen => joinHalves (highHalf s.now.draws.openBits) (lowHalf s.umcpen)
  | .counterLo => s.counterLo
  | .counterHi => s.counterHi
  | .c30 => s.now.draws.openBits
  | .c31 => s.now.draws.openBits

/-- What `mtctl` writes (R188): IACK is an output event (R207); the read-only registers, C30 and C31 take no write
(R45, R46, D10). -/
def State.writeCtl (s : State) (c : CtlReg) (v : Word) : State :=
  match c with
  | .user r => { s with xu := s.xu.set r v }
  | .epc => { s with epc := v }
  | .epcsaved => { s with epcSaved := v }
  | .status => { s with status := Status.ofWord v }
  | .ifaulthdl => { s with ifaulthdl := v }
  | .dfaulthdl => { s with dfaulthdl := v }
  | .swihdl => { s with swihdl := v }
  | .illophdl => { s with illophdl := v }
  | .privophdl => { s with privophdl := v }
  | .exihdl n => { s with exihdl := s.exihdl.set n v }
  | .ienable => { s with ienable := v }
  | .ipend => s
  | .iack => s.emit (.ack (lowHalf v))
  | .umcpen => { s with umcpen := v }
  | .counterLo => s
  | .counterHi => s
  | .c30 => s
  | .c31 => s

/-! ## Taking a trap, and returning from one -/

/-- `TrapEntry(epc, vector)` (R215), all right-hand sides the values before the step. -/
def State.trapEntry (epc vector : Word) (s : State) : State :=
  { s with
    epcSaved := s.epc
    epc := epc
    pc := vector
    status := { s.status with s := s.status.u, u := s.status.m, m := false, e := false } }

/-- The address a trap of this cause puts in EPC (R200): the instruction itself, but the following one for `int` (C11), and
for the optional overflow trap (D7). -/
def State.resumeAddress (s : State) : Cause → Word
  | .instructionFetchFault => s.pc
  | .dataFault => s.pc
  | .softwareInterrupt _ => nextPc s.pc
  | .illegalOperation => s.pc
  | .privilegedOperation => s.pc
  | .coprocessorDisabled _ => s.pc
  | .externalInterrupt _ => s.pc
  | .arithmeticOverflow => nextPc s.pc

/-- The handler register's content a trap of this cause jumps to (R200; C13 for privileged operations; R209, D11 for a
denied coprocessor). -/
def State.handler (s : State) : Cause → Word
  | .instructionFetchFault => s.ifaulthdl
  | .dataFault => s.dfaulthdl
  | .softwareInterrupt _ => s.swihdl
  | .illegalOperation => s.illophdl
  | .privilegedOperation => s.privophdl
  | .coprocessorDisabled _ =>
    match s.params.coprocDenied with
    | .illop => s.illophdl
    | .privop => s.privophdl
  | .externalInterrupt n => s.exihdl.get n
  | .arithmeticOverflow => s.illophdl

/-- `STATUS.A` after a trap: only `int` writes it (R195, R215). -/
def State.trapArgument (s : State) : Cause → BitVec 11
  | .softwareInterrupt arg => arg
  | .instructionFetchFault => s.status.a
  | .dataFault => s.status.a
  | .illegalOperation => s.status.a
  | .privilegedOperation => s.status.a
  | .coprocessorDisabled _ => s.status.a
  | .externalInterrupt _ => s.status.a
  | .arithmeticOverflow => s.status.a

/-- `STATUS.A <- arg`. -/
def State.setArgument (s : State) (a : BitVec 11) : State := { s with status := { s.status with a := a } }

/-- `raise E` (R9, R200, R215). -/
def State.raise (s : State) (c : Cause) : State :=
  (s.trapEntry (s.resumeAddress c) (s.handler c)).setArgument (s.trapArgument c)

/-- The supervisor half of `rfi` (R196, R216), all right-hand sides the values before the step. -/
def State.returnFromTrap (s : State) : State :=
  { s with
    pc := s.epc
    epc := s.epcSaved
    status := { s.status with m := s.status.u, u := s.status.s, e := true } }

/-! ## Memory -/

/-- An address lies in one of the refused regions (D2). -/
def refusedBy (regions : List Region) (a : Word) : Bool :=
  regions.any (fun r => decide (r.first.toNat ≤ a.toNat ∧ a.toNat ≤ r.last.toNat))

/-- A controller's answer to one request: what the environment says of this step's request (U9, U16), and where it answers,
the fixed fault predicate (D2). -/
def controllerAnswer (bus : BusAnswer) (regions : List Region) (a : Word) : BusAnswer :=
  match bus with
  | .answers => if refusedBy regions a then .refuses else .answers
  | .refuses => .refuses
  | .silent => .silent

/-- The answer to this step's data access (R76, R77). -/
def State.dataAnswer (s : State) (a : Word) : BusAnswer := controllerAnswer s.now.dataBus s.dfaults a

/-- The answer to this step's fetch (R75). -/
def State.fetchAnswer (s : State) : BusAnswer := controllerAnswer s.now.instrBus s.ifaults s.pc

/-- The word at `pc` (R75). -/
def State.fetchedWord (s : State) : Word := s.imem.read s.pc.toNat

/-- The word a data read gives where the controller answers (R76). -/
def State.loadWord (s : State) (a : Word) : Word := s.dmem.read a.toNat

/-- The write a data write does where the controller answers (R77). -/
def State.storeWord (s : State) (a v : Word) : State := { s with dmem := s.dmem.write a.toNat v }

/-- `ldw`, `stw`, `sc`: the effective address (R78). -/
def State.dataAddress (s : State) (a : Reg) (off : BitVec 5) : Word := offsetFrom (s.reg a) off

/-! ## Coprocessors -/

/-- The user-mode enable check of R183. -/
def State.coprocessorDenied (s : State) (n : CpNum) : Bool := s.status.m && !numberedBit s.umcpen n

/-- The value `CpRead(n, r)` yields: an attached NVRAM's register, and else a draw (R180, R238, D13). -/
def State.cpReadValue (s : State) (n : CpNum) (r : BitVec 5) : Word :=
  match s.nvram with
  | none => s.now.draws.cvali
  | some d => if d.number = n then d.readReg r s.now.draws.cvali else s.now.draws.cvali

/-- `CpWrite(n, r, v)`: an output event, which an attached NVRAM takes (R181, R238). -/
def State.cpWrite (s : State) (n : CpNum) (r : BitVec 5) (v : Word) : State :=
  { s with nvram := s.nvram.map (Nvram.select n (Nvram.writeReg r v)), events := .cpWrite n r v :: s.events }

/-- `CpExec(n, v)`: an output event, which an attached NVRAM takes (R182, R238). -/
def State.cpExec (s : State) (n : CpNum) (v : Word) : State :=
  { s with nvram := s.nvram.map (Nvram.select n (Nvram.execute v s.now.draws.openBits)), events := .cpExec n v :: s.events }

/-! ## The instruction boundary -/

/-- The environment at the boundary the machine has reached: the next scripted one; where none is scripted, every pin and
every drawn value is free, and nothing is written to data memory from outside and no request is refused beyond the fixed
fault predicates (D2; log 6). -/
def State.sample (s : State) : Boundary :=
  match s.inputs with
  | b :: _ => b
  | [] => { draws := Config.environment s.boundaries, instrBus := .answers, dataBus := .answers, busWrites := [] }

/-- What the environment does before the next instruction (R267), given its sample: the NVRAM moves (R238), other masters'
writes land (R87), LLINVAL clears the link (R92, D15), the cycle counter has moved on (D16). -/
def State.applyBoundary (s : State) (b : Boundary) : State :=
  { s with
    now := b
    inputs := s.inputs.tail
    boundaries := s.boundaries + 1
    nvram := s.nvram.map (Nvram.advance b.draws.nvram)
    dmem := s.dmem.writeAll b.busWrites
    status := { s.status with l := s.status.l && !b.draws.llinval }
    counterLo := b.draws.counter.extractLsb' 0 16
    counterHi := b.draws.counter.extractLsb' 16 16 }

/-- The state in which the boundary's interrupt test is made. -/
def State.atBoundary (s : State) : State := s.applyBoundary s.sample

/-- The state in which the instruction at `pc` is decoded and executed: after the boundary and its fetch. -/
def State.fetched (s : State) : State := s.atBoundary.emit (.fetch s.pc)

end Sys2Proof.Machine
end

