-- ==== Sys2Proof/Machine/Bitwise.lean ====
section
/-! DEFINITION. Bitwise operations (spec/40_bitwise.md R130 to R138). No exception of their own, no STATUS bit, legal in both
modes; sources are read before the destination is written. -/

namespace Sys2Proof.Machine

/-- A three-register operation without exceptions (R9, R130). -/
def op3 (f : Word → Word → Word) (d a b : Reg) (s : State) : Host.Outcome State Fault Refusal :=
  .next (s.writeNext d (f (s.reg a) (s.reg b)))

/-- An operation on one register and an immediate without exceptions (R9). -/
def opImm (f : Word → Word) (t : Reg) (s : State) : Host.Outcome State Fault Refusal :=
  .next (s.writeNext t (f (s.reg t)))

/-- An operation on the low half that keeps the high half (R135 to R138). -/
def onLowHalf (f : Half → Half) (v : Word) : Word := joinHalves (highHalf v) (f (lowHalf v))

/-- `or` (R131). -/
def execOr (d a b : Reg) (s : State) : Host.Outcome State Fault Refusal := op3 (fun x y => x ||| y) d a b s

/-- `and` (R132). -/
def execAnd (d a b : Reg) (s : State) : Host.Outcome State Fault Refusal := op3 (fun x y => x &&& y) d a b s

/-- `nor` (R133). -/
def execNor (d a b : Reg) (s : State) : Host.Outcome State Fault Refusal := op3 (fun x y => ~~~(x ||| y)) d a b s

/-- `xor` (R134). -/
def execXor (d a b : Reg) (s : State) : Host.Outcome State Fault Refusal := op3 (fun x y => x ^^^ y) d a b s

/-- `andi` (R135). -/
def execAndi (t : Reg) (val : BitVec 8) (s : State) : Host.Outcome State Fault Refusal :=
  opImm (onLowHalf (fun x => x &&& val)) t s

/-- `ori` (R136). -/
def execOri (t : Reg) (val : BitVec 8) (s : State) : Host.Outcome State Fault Refusal :=
  opImm (onLowHalf (fun x => x ||| val)) t s

/-- `nori` (R137): the high half is kept, not inverted. -/
def execNori (t : Reg) (val : BitVec 8) (s : State) : Host.Outcome State Fault Refusal :=
  opImm (onLowHalf (fun x => ~~~(x ||| val))) t s

/-- `xori` (R138). -/
def execXori (t : Reg) (val : BitVec 8) (s : State) : Host.Outcome State Fault Refusal :=
  opImm (onLowHalf (fun x => x ^^^ val)) t s

end Sys2Proof.Machine
end

