-- ==== Sys2Proof/Machine/Flags.lean ====
section
/-! DEFINITION. The conditions arithmetic can test. The CN1601 has no flag register (spec/10_state.md R26): carry and borrow are
delivered in a register by `addc` and `subc` (41_arithmetic.md R143, R144, D12), zero is tested by the branches, and signed
overflow matters only to the parameter `OVERFLOW_TRAP` (R141, R142, D7). -/

namespace Sys2Proof.Machine

/-- The carry out of bit 15 of a sum (R143). -/
def carryOut (x y : Word) : Bool := decide (2 ^ 16 ≤ x.toNat + y.toNat)

/-- The borrow of a difference (R144). -/
def borrowOut (x y : Word) : Bool := decide (x.toNat < y.toNat)

/-- A condition as the word 0 or 1 (R143, R144, R174). -/
def flagWord (c : Bool) : Word := if c then 1 else 0

/-- An exact result outside the signed 16-bit range (R141). -/
def outsideSigned (v : Int) : Bool := decide (v < -32768 ∨ 32767 < v)

/-- Signed overflow of a sum (R141, D7). -/
def addOverflows (x y : Word) : Bool := outsideSigned (x.toInt + y.toInt)

/-- Signed overflow of a difference (R142, D7). -/
def subOverflows (x y : Word) : Bool := outsideSigned (x.toInt - y.toInt)

/-- All sixteen bits are zero (R163). -/
def isZero (v : Word) : Bool := v == 0

end Sys2Proof.Machine
end

