-- ==== Sys2Proof/Machine/Arithmetic.lean ====
section
/-! DEFINITION. Arithmetic operations (spec/41_arithmetic.md R140 to R146). Results modulo 2^16; no STATUS bit; no trap, but
for `add` and `sub` where the parameter `OVERFLOW_TRAP` is true (D7). -/

namespace Sys2Proof.Machine

/-- A three-register operation that traps on signed overflow where `OVERFLOW_TRAP` is true: nothing is written, and the trap
goes through ILLOPHDL with EPC = pc + 1 (R141, D7). -/
def op3Trapping (overflows : Word → Word → Bool) (f : Word → Word → Word) (d a b : Reg) (s : State) :
    Host.Outcome State Fault Refusal :=
  if s.params.overflowTrap && overflows (s.reg a) (s.reg b) then .next (s.raise .arithmeticOverflow)
  else op3 f d a b s

/-- `add` (R141). -/
def execAdd (d a b : Reg) (s : State) : Host.Outcome State Fault Refusal :=
  op3Trapping addOverflows (fun x y => x + y) d a b s

/-- `sub` (R142). -/
def execSub (d a b : Reg) (s : State) : Host.Outcome State Fault Refusal :=
  op3Trapping subOverflows (fun x y => x - y) d a b s

/-- `addc`: the unsigned carry of the sum, 0 or 1 (R143, D12). -/
def execAddc (d a b : Reg) (s : State) : Host.Outcome State Fault Refusal :=
  op3 (fun x y => flagWord (carryOut x y)) d a b s

/-- `subc`: the unsigned borrow of the difference, 0 or 1 (R144, D12). -/
def execSubc (d a b : Reg) (s : State) : Host.Outcome State Fault Refusal :=
  op3 (fun x y => flagWord (borrowOut x y)) d a b s

/-- `inci` (R145). -/
def execInci (t : Reg) (val : BitVec 8) (s : State) : Host.Outcome State Fault Refusal :=
  opImm (fun x => x + zext val) t s

/-- `deci` (R146). -/
def execDeci (t : Reg) (val : BitVec 8) (s : State) : Host.Outcome State Fault Refusal :=
  opImm (fun x => x - zext val) t s

end Sys2Proof.Machine
end

