-- ==== Sys2Proof/Machine/Branch.lean ====
section
/-! DEFINITION. Branches and jumps (spec/43_branch.md R160 to R166). No delay slots (R256); offsets are relative to the branch
itself; the link is R7 of the current bank (R22). -/

namespace Sys2Proof.Machine

/-- `x[7] <- pc + 1`, then `pc <- target` (R162, R166). -/
def State.linkAndJump (s : State) (target : Word) : State := (s.setReg .r7 (nextPc s.pc)).jump target

/-- A branch taken on a condition (R163, R164). -/
def State.branchIf (s : State) (c : Bool) (off : BitVec 8) : State :=
  if c then s.jump (offsetFrom s.pc off) else s.advance

/-- `ba` (R161). -/
def execBa (off : BitVec 11) (s : State) : Host.Outcome State Fault Refusal := .next (s.jump (offsetFrom s.pc off))

/-- `bal` (R162). -/
def execBal (off : BitVec 11) (s : State) : Host.Outcome State Fault Refusal := .next (s.linkAndJump (offsetFrom s.pc off))

/-- `bz` (R163). -/
def execBz (t : Reg) (off : BitVec 8) (s : State) : Host.Outcome State Fault Refusal :=
  .next (s.branchIf (isZero (s.reg t)) off)

/-- `bnz` (R164). -/
def execBnz (t : Reg) (off : BitVec 8) (s : State) : Host.Outcome State Fault Refusal :=
  .next (s.branchIf (!isZero (s.reg t)) off)

/-- `jr` (R165). -/
def execJr (t : Reg) (off : BitVec 8) (s : State) : Host.Outcome State Fault Refusal :=
  .next (s.jump (offsetFrom (s.reg t) off))

/-- `jlr` (R166): the target is computed from the old register before the link is written. -/
def execJlr (t : Reg) (off : BitVec 8) (s : State) : Host.Outcome State Fault Refusal :=
  .next (s.linkAndJump (offsetFrom (s.reg t) off))

end Sys2Proof.Machine
end

