-- ==== Sys2Proof/Machine/Coprocessor.lean ====
section
/-! DEFINITION. Coprocessor and control-register instructions (spec/45_coprocessor_control.md R180 to R189). -/

namespace Sys2Proof.Machine

/-- The check of R183 before a coprocessor instruction: denied, it does nothing but trap. -/
def State.checked (s : State) (n : CpNum) (completed : State) : Host.Outcome State Fault Refusal :=
  if s.coprocessorDenied n then .next (s.raise (.coprocessorDisabled n)) else .next completed

/-- The mode check of `mfctl`, `mtctl` and `rfi` (R187, R188, R196): in user mode the instruction does nothing but trap
(R208). -/
def State.privileged (s : State) (completed : State) : Host.Outcome State Fault Refusal :=
  if s.status.m then .next (s.raise .privilegedOperation) else .next completed

/-- `mfcp` (R184, R189). -/
def execMfcp (d : Reg) (n : CpNum) (r : BitVec 5) (s : State) : Host.Outcome State Fault Refusal :=
  s.checked n ((s.emit (.cpRead n r)).writeNext d (s.cpReadValue n r))

/-- `mtcp` (R185, R189). -/
def execMtcp (src : Reg) (n : CpNum) (r : BitVec 5) (s : State) : Host.Outcome State Fault Refusal :=
  s.checked n (s.cpWrite n r (s.reg src)).advance

/-- `cpop` (R186, R189): the operation code is the register's content. -/
def execCpop (p : Reg) (n : CpNum) (s : State) : Host.Outcome State Fault Refusal :=
  s.checked n (s.cpExec n (s.reg p)).advance

/-- `mfctl` (R187). -/
def execMfctl (d : Reg) (c : CtlReg) (s : State) : Host.Outcome State Fault Refusal :=
  s.privileged (s.writeNext d (s.readCtl c))

/-- `mtctl` (R188): what it writes is in force for the next instruction, at `pc + 1`. -/
def execMtctl (src : Reg) (c : CtlReg) (s : State) : Host.Outcome State Fault Refusal :=
  s.privileged (s.writeCtl c (s.reg src)).advance

end Sys2Proof.Machine
end

