-- ==== Sys2Proof/Machine/LoadStore.lean ====
section
/-! DEFINITION. Load and store operations (spec/44_load_store.md R170 to R176). A data access is answered, refused (the
data-memory fault of 60_exceptions.md R204) or never answered (U9). -/

namespace Sys2Proof.Machine

/-- `li` (R170): the old value does not matter. -/
def execLi (t : Reg) (val : BitVec 8) (s : State) : Host.Outcome State Fault Refusal := opImm (fun _ => zext val) t s

/-- `shlli` (R171): the old low half moves up, the immediate becomes the low half. -/
def execShlli (t : Reg) (val : BitVec 8) (s : State) : Host.Outcome State Fault Refusal :=
  opImm (fun x => joinHalves (lowHalf x) val) t s

/-- What an access ends in: the completed state where the controller answers, the trap from the state given for it where it
refuses, and no further step where it is silent. -/
def State.access (s : State) (addr : Word) (completed faulted : State) : Host.Outcome State Fault Refusal :=
  match s.dataAnswer addr with
  | .answers => .next completed
  | .refuses => .next (faulted.raise .dataFault)
  | .silent => .fault .dataBusSilent

/-- `ldw` (R172): sets the link, clears it again if the access faults. -/
def execLdw (v a : Reg) (off : BitVec 5) (s : State) : Host.Outcome State Fault Refusal :=
  let addr := s.dataAddress a off
  let s₁ := s.emit (.dataRead addr)
  s.access addr ((s₁.setLink true).writeNext v (s.loadWord addr)) (s₁.setLink false)

/-- `stw` (R173): clears the link first, and keeps it cleared if the access faults. -/
def execStw (v a : Reg) (off : BitVec 5) (s : State) : Host.Outcome State Fault Refusal :=
  let addr := s.dataAddress a off
  let s₁ := (s.emit (.dataWrite addr (s.reg v))).setLink false
  s.access addr (s₁.storeWord addr (s.reg v)).advance s₁

/-- `sc` (R174): without the link, no access and 0; with it, the store, 1 and the link cleared; a fault changes neither. -/
def execSc (v a : Reg) (off : BitVec 5) (s : State) : Host.Outcome State Fault Refusal :=
  if s.status.l then
    let addr := s.dataAddress a off
    let s₁ := s.emit (.dataWrite addr (s.reg v))
    s.access addr (((s₁.storeWord addr (s.reg v)).setLink false).writeNext v 1) s₁
  else .next (s.writeNext v 0)

end Sys2Proof.Machine
end

