-- ==== Sys2Proof/Machine/Privilege.lean ====
section
/-! DEFINITION. Privilege control (spec/46_privilege.md R195 to R197). -/

namespace Sys2Proof.Machine

/-- `int` (R195): taken in both modes, whatever STATUS.E holds. -/
def execInt (arg : BitVec 11) (s : State) : Host.Outcome State Fault Refusal := .next (s.raise (.softwareInterrupt arg))

/-- `rfi` (R196). -/
def execRfi (s : State) : Host.Outcome State Fault Refusal := s.privileged s.returnFromTrap

end Sys2Proof.Machine
end

