-- ==== Sys2Proof/Machine/Shift.lean ====
section
/-! DEFINITION. Shift operations (spec/42_shift.md R150 to R157). A register amount of 16 or more follows the parameter
`SHIFT_REG_AMOUNT` (R150, D8). -/

namespace Sys2Proof.Machine

/-- The amount a register shift uses, `none` where the parameter refuses it (R150). -/
def registerAmount (policy : Config.ShiftAmount) (x : Word) : Option Nat :=
  match policy with
  | .full => some x.toNat
  | .low4 => some (x.toNat % 16)
  | .refuse => if x.toNat < 16 then some x.toNat else none

/-- A shift by a register amount (R151 to R153). -/
def shiftByReg (f : Word → Nat → Word) (d a b : Reg) (s : State) : Host.Outcome State Fault Refusal :=
  match registerAmount s.params.shiftAmount (s.reg b) with
  | some n => .next (s.writeNext d (f (s.reg a) n))
  | none => .refused .shiftAmount

/-- `shl` (R151). -/
def execShl (d a b : Reg) (s : State) : Host.Outcome State Fault Refusal := shiftByReg shiftLeft d a b s

/-- `shr` (R152). -/
def execShr (d a b : Reg) (s : State) : Host.Outcome State Fault Refusal := shiftByReg shiftRight d a b s

/-- `shra` (R153). -/
def execShra (d a b : Reg) (s : State) : Host.Outcome State Fault Refusal := shiftByReg shiftRightArith d a b s

/-- `shli` (R154). -/
def execShli (t : Reg) (val : BitVec 4) (s : State) : Host.Outcome State Fault Refusal :=
  opImm (fun x => shiftLeft x val.toNat) t s

/-- `shri` (R155). -/
def execShri (t : Reg) (val : BitVec 4) (s : State) : Host.Outcome State Fault Refusal :=
  opImm (fun x => shiftRight x val.toNat) t s

/-- `shrai` (R156). -/
def execShrai (t : Reg) (val : BitVec 4) (s : State) : Host.Outcome State Fault Refusal :=
  opImm (fun x => shiftRightArith x val.toNat) t s

/-- `lhswp`: the halves change places (R157). -/
def execLhswp (t : Reg) (s : State) : Host.Outcome State Fault Refusal :=
  opImm (fun x => joinHalves (lowHalf x) (highHalf x)) t s

end Sys2Proof.Machine
end

