-- ==== Sys2Proof/Machine/Dispatch.lean ====
section
/-! DEFINITION. One instruction at `pc`, in the state its fetch has left: one arm for each instruction. -/

namespace Sys2Proof.Machine

def exec (i : Instr) (s : State) : Host.Outcome State Fault Refusal :=
  match i with
  -- bitwise, three registers (R131 to R134)
  | .or d a b => Sys2Proof.Machine.execOr d a b s
  | .and d a b => Sys2Proof.Machine.execAnd d a b s
  | .nor d a b => Sys2Proof.Machine.execNor d a b s
  | .xor d a b => Sys2Proof.Machine.execXor d a b s
  -- arithmetic, three registers (R141 to R144)
  | .add d a b => Sys2Proof.Machine.execAdd d a b s
  | .sub d a b => Sys2Proof.Machine.execSub d a b s
  | .addc d a b => Sys2Proof.Machine.execAddc d a b s
  | .subc d a b => Sys2Proof.Machine.execSubc d a b s
  -- shifts, three registers (R151 to R153)
  | .shl d a b => Sys2Proof.Machine.execShl d a b s
  | .shr d a b => Sys2Proof.Machine.execShr d a b s
  | .shra d a b => Sys2Proof.Machine.execShra d a b s
  -- immediates (R170, R171, R145, R146, R135 to R138)
  | .li t val => Sys2Proof.Machine.execLi t val s
  | .shlli t val => Sys2Proof.Machine.execShlli t val s
  | .inci t val => Sys2Proof.Machine.execInci t val s
  | .deci t val => Sys2Proof.Machine.execDeci t val s
  | .andi t val => Sys2Proof.Machine.execAndi t val s
  | .ori t val => Sys2Proof.Machine.execOri t val s
  | .nori t val => Sys2Proof.Machine.execNori t val s
  | .xori t val => Sys2Proof.Machine.execXori t val s
  -- shifts by an immediate, and the swap (R154 to R157)
  | .shli t val => Sys2Proof.Machine.execShli t val s
  | .shri t val => Sys2Proof.Machine.execShri t val s
  | .shrai t val => Sys2Proof.Machine.execShrai t val s
  | .lhswp t => Sys2Proof.Machine.execLhswp t s
  -- branches and jumps (R161 to R166)
  | .ba off => Sys2Proof.Machine.execBa off s
  | .bal off => Sys2Proof.Machine.execBal off s
  | .bz t off => Sys2Proof.Machine.execBz t off s
  | .bnz t off => Sys2Proof.Machine.execBnz t off s
  | .jr t off => Sys2Proof.Machine.execJr t off s
  | .jlr t off => Sys2Proof.Machine.execJlr t off s
  -- data memory (R172 to R174)
  | .ldw v a off => Sys2Proof.Machine.execLdw v a off s
  | .stw v a off => Sys2Proof.Machine.execStw v a off s
  | .sc v a off => Sys2Proof.Machine.execSc v a off s
  -- coprocessors (R184 to R186)
  | .mfcp d n r => Sys2Proof.Machine.execMfcp d n r s
  | .mtcp src n r => Sys2Proof.Machine.execMtcp src n r s
  | .cpop p n => Sys2Proof.Machine.execCpop p n s
  -- privilege and control registers (R195, R196, R187, R188)
  | .int arg => Sys2Proof.Machine.execInt arg s
  | .rfi => Sys2Proof.Machine.execRfi s
  | .mfctl d c => Sys2Proof.Machine.execMfctl d c s
  | .mtctl src c => Sys2Proof.Machine.execMtctl src c s

end Sys2Proof.Machine
end

