-- ==== Sys2Proof/Machine/Cycle.lean ====
section
/-! DEFINITION. One instruction boundary and what follows it, in the order of spec/60_exceptions.md R212: the environment's
moves, the external interrupt, the fetch, the decoding, the execution. Each is one step. -/

namespace Sys2Proof.Machine

/-- The fetched word: an instruction runs; an unassigned word is an illegal operation (R105, R203); a must-be-zero violation
follows `MBZ_POLICY` (R106, D5). -/
def State.runWord (s : State) (w : Word) : Host.Outcome State Fault Refusal :=
  match decode w with
  | .ok i => exec i s
  | .unassigned => .next (s.raise .illegalOperation)
  | .mustBeZero i =>
    match s.params.mbzPolicy with
    | .refuse => .refused .mustBeZero
    | .ignore => exec i s
    | .illegal => .next (s.raise .illegalOperation)

/-- The fetch and what comes of it (R201, R212). -/
def State.runFetched (s : State) : Host.Outcome State Fault Refusal :=
  match s.fetchAnswer with
  | .answers => s.runWord s.fetchedWord
  | .refuses => .next (s.raise .instructionFetchFault)
  | .silent => .fault .instructionBusSilent

/-- One step: the interrupt test comes first, and an interrupt taken is the whole step (R210, R212, R214). -/
def State.cycle (s : State) : Host.Outcome State Fault Refusal :=
  match s.atBoundary.acceptedInterrupt with
  | some n => .next (s.atBoundary.raise (.externalInterrupt n))
  | none => s.fetched.runFetched

/-- The instruction word placed where the next step fetches: at `pc` in instruction memory (R24, R75). -/
def State.placeWord (s : State) (w : Word) : State := { s with imem := s.imem.write s.pc.toNat w }

end Sys2Proof.Machine
end

