-- ==== Sys2Proof/Machine/Step.lean ====
section
/-! DEFINITION. The step of the machine: one instruction boundary and the interrupt entry or instruction after it (spec/00_scope.md
R9, 60_exceptions.md R212). -/

namespace Sys2Proof.Machine

/-- One step. -/
def step (s : State) : Host.Outcome State Fault Refusal := s.cycle

/-- `s` with the table word `w` of `nbits` bits (the bits above are zero) in instruction memory at `pc`, where `step` fetches
its next instruction. It stands for the loading of a program from outside the machine (log 3). -/
def State.withFetchWord (s : State) (nbits w : Nat) : State := s.placeWord (BitVec.ofNat 16 (w % 2 ^ nbits))

end Sys2Proof.Machine
end

