-- ==== Sys2Proof/Safety.lean ====
section
/-! DEFINITION. The terms the statements use: what is left unchanged, what a trap does, what a completed instruction does, what
a step executes, the invariant of the memories, and when a run is finished (spec/92_eei_decisions.md D21). -/

namespace Sys2Proof.Machine

/-! ## What is left unchanged -/

/-- Every general register of both banks is unchanged, but for `x[d]` of the current bank. -/
def State.sameRegsBut (d : Reg) (s t : State) : Prop :=
  if s.status.m then t.xs = s.xs ∧ ∀ r, r ≠ d → t.xu.get r = s.xu.get r
  else t.xu = s.xu ∧ ∀ r, r ≠ d → t.xs.get r = s.xs.get r

/-- Every general register of both banks is unchanged. -/
def State.sameRegs (s t : State) : Prop := t.xu = s.xu ∧ t.xs = s.xs

/-- The thirteen handler registers, IENABLE, UMCPEN and the cycle counter are unchanged. -/
def State.sameHandlers (s t : State) : Prop :=
  t.ifaulthdl = s.ifaulthdl ∧ t.dfaulthdl = s.dfaulthdl ∧ t.swihdl = s.swihdl ∧ t.illophdl = s.illophdl ∧
  t.privophdl = s.privophdl ∧ t.exihdl = s.exihdl ∧ t.ienable = s.ienable ∧ t.umcpen = s.umcpen ∧
  t.counterLo = s.counterLo ∧ t.counterHi = s.counterHi

/-- EPC, EPCSAVED and everything of `sameHandlers` are unchanged: every control register but STATUS and C0..C7. -/
def State.sameControl (s t : State) : Prop := t.epc = s.epc ∧ t.epcSaved = s.epcSaved ∧ s.sameHandlers t

/-- Every word of instruction memory reads as before. -/
def State.sameInstructions (s t : State) : Prop := ∀ a, t.imem.read a = s.imem.read a

/-- Every word of both memories reads as before. -/
def State.sameMemory (s t : State) : Prop := (∀ a, t.dmem.read a = s.dmem.read a) ∧ s.sameInstructions t

/-- Every word of both memories reads as before, but for the data word at `addr`. -/
def State.sameMemoryBut (addr : Word) (s t : State) : Prop :=
  (∀ a, a ≠ addr.toNat → t.dmem.read a = s.dmem.read a) ∧ s.sameInstructions t

/-- The fault predicates, the parameters and the environment are unchanged. -/
def State.samePlatform (s t : State) : Prop :=
  t.ifaults = s.ifaults ∧ t.dfaults = s.dfaults ∧ t.params = s.params ∧ t.now = s.now ∧ t.inputs = s.inputs ∧
  t.boundaries = s.boundaries

/-- Nothing has gone out to a coprocessor or to a bus, and the NVRAM is as it was. -/
def State.samePins (s t : State) : Prop := t.events = s.events ∧ t.nvram = s.nvram

/-- `pc` is the next address, modulo 2^16 (R24, R25). -/
def State.pcAdvanced (s t : State) : Prop := t.pc.toNat = (s.pc.toNat + 1) % 2 ^ 16

/-! ## Completed instructions and traps -/

/-- The instruction completes: `x[d]` holds a value with `P`, `pc` has advanced, and nothing else has changed. -/
def CompletesWriting (i : Instr) (d : Reg) (s : State) (P : Word → Prop) : Prop :=
  ∃ t, exec i s = .next t ∧ P (t.reg d) ∧ s.pcAdvanced t ∧ s.sameRegsBut d t ∧ t.status = s.status ∧ s.sameControl t ∧
    s.sameMemory t ∧ s.samePlatform t ∧ s.samePins t

/-- The instruction completes with `pc` holding a value with `P`, and nothing else has changed. -/
def CompletesJumping (i : Instr) (s : State) (P : Word → Prop) : Prop :=
  ∃ t, exec i s = .next t ∧ P t.pc ∧ s.sameRegs t ∧ t.status = s.status ∧ s.sameControl t ∧ s.sameMemory t ∧
    s.samePlatform t ∧ s.samePins t

/-- The instruction completes with `pc` holding a value with `P` and `x[7]` the address after the instruction, and nothing
else has changed. -/
def CompletesLinking (i : Instr) (s : State) (P : Word → Prop) : Prop :=
  ∃ t, exec i s = .next t ∧ P t.pc ∧ (t.reg .r7).toNat = (s.pc.toNat + 1) % 2 ^ 16 ∧ s.sameRegsBut .r7 t ∧
    t.status = s.status ∧ s.sameControl t ∧ s.sameMemory t ∧ s.samePlatform t ∧ s.samePins t

/-- From `s` to `t` the trap entry of R215 has been done, with this EPC, this vector and this STATUS.A, and nothing else. -/
def State.trapTaken (s t : State) (epc vector : Word) (arg : BitVec 11) : Prop :=
  t.pc = vector ∧ t.epc = epc ∧ t.epcSaved = s.epc ∧
  t.status = { m := false, e := false, u := s.status.m, l := s.status.l, s := s.status.u, a := arg } ∧
  s.sameRegs t ∧ s.sameHandlers t ∧ s.sameMemory t ∧ s.samePlatform t ∧ s.samePins t

/-- From `s` to `t` the data-fault trap of R204 has been taken by the instruction at `s.pc`, which has left the link at `link`
and put one request on the data bus, and done nothing else. -/
def State.dataFaultTaken (s t : State) (link : Bool) (request : Event) : Prop :=
  t.pc = s.dfaulthdl ∧ t.epc = s.pc ∧ t.epcSaved = s.epc ∧
  t.status = { m := false, e := false, u := s.status.m, l := link, s := s.status.u, a := s.status.a } ∧
  s.sameRegs t ∧ s.sameHandlers t ∧ s.sameMemory t ∧ s.samePlatform t ∧ t.nvram = s.nvram ∧
  t.events = request :: s.events

/-! ## What a step executes -/

/-- The step at `s` executes `i`: no interrupt is accepted at the boundary, the fetch is answered, and the fetched word is the
instruction, or is it but for must-be-zero bits that `MBZ_POLICY` ignores. -/
def State.runs (s : State) (i : Instr) : Prop :=
  s.atBoundary.acceptedInterrupt = none ∧ s.fetched.fetchAnswer = .answers ∧
  (decode s.fetched.fetchedWord = .ok i ∨
    (decode s.fetched.fetchedWord = .mustBeZero i ∧ s.params.mbzPolicy = .ignore))

/-- The memories are in their canonical form. -/
def State.wf (s : State) : Prop :=
  s.imem.wf (2 ^ 16) ∧ s.dmem.wf (2 ^ 16) ∧ ∀ d, s.nvram = some d → d.cells.wf (2 ^ 32)

/-- `s` after `k` boundaries and fetches at which nothing else happens. -/
def State.idle : Nat → State → State
  | 0, s => s
  | k + 1, s => State.idle k s.fetched

/-- The run is finished at `s` (R266, D21): `pc` addresses the word `0x7800`, `ba #0`, and no external interrupt is deliverable:
STATUS.E is 0, or no enabled source is pending at this boundary or at any later one. That the word is there to be fetched at
each of them is said beside it: a controller that refused one fetch (U16) or was silent (U9) would end the loop. -/
def State.finished (s : State) : Prop :=
  s.fetchedWord = 0x7800 ∧
  (s.status.e = false ∨
    ∀ (k : Nat) (n : CpNum), ¬ (numberedBit s.ienable n = true ∧ (s.idle k).atBoundary.pin n = true)) ∧
  ∀ k : Nat, (s.idle k).fetched.fetchAnswer = .answers

/-- The environment lets this step answer: neither memory controller is silent for ever (U9). -/
def State.busesAnswer (s : State) : Prop := s.sample.instrBus ≠ .silent ∧ s.sample.dataBus ≠ .silent

/-- The parameters give every word and every amount a meaning: neither `MBZ_POLICY` nor `SHIFT_REG_AMOUNT` is `refuse`. -/
def State.nothingRefused (s : State) : Prop := s.params.mbzPolicy ≠ .refuse ∧ s.params.shiftAmount ≠ .refuse

/-- `s` with everything user code must not be able to read taken from `o`: the supervisor bank, the control registers but
UMCPEN, the cycle counter, and STATUS but M and L (R23, R221). -/
def State.withSecretsOf (s o : State) : State :=
  { s with
    xs := o.xs, epc := o.epc, epcSaved := o.epcSaved
    status := { s.status with e := o.status.e, u := o.status.u, s := o.status.s, a := o.status.a }
    ifaulthdl := o.ifaulthdl, dfaulthdl := o.dfaulthdl, swihdl := o.swihdl, illophdl := o.illophdl
    privophdl := o.privophdl, exihdl := o.exihdl, ienable := o.ienable
    counterLo := o.counterLo, counterHi := o.counterHi }

/-! ## Fields of a word -/

/-- The major opcode of a word, bits 15..11 (R101). -/
def opcodeOf (w : Word) : BitVec 5 := w.extractLsb' 11 5

/-- The register a word names in bits 10..8, 7..5 or 4..2 (R101). -/
def regField (w : Word) (lo : Nat) : Reg := Reg.ofBits (w.extractLsb' lo 3)

end Sys2Proof.Machine
end

