-- ==== Sys2Proof/Certificates/Slice0/Obligations.lean ====
section
/-! DEFINITION. The statements for the provers. R<n> are the rules of spec/; a statement about an instruction says its encoding
(30_encoding.md R101, R103), its result, where it traps, and everything it leaves unchanged. -/

open Sys2Proof Sys2Proof.Machine

/-! ## Encoding -/

/-- R101 to R103, R108: decoding the word of any instruction gives the instruction back, with every operand at every value its
field admits. Every term of `Instr` is a well-formed instruction: its operands have exactly the values of their fields. -/
def Obligations.DecodeOfEncode : Prop := ∀ i : Instr, decode (encode i) = .ok i

/-- R103, R108: a word that decodes to an instruction is that instruction's word: no bit of it is dropped. -/
def Obligations.EncodeOfDecode : Prop := ∀ (w : Word) (i : Instr), decode w = .ok i → encode i = w

/-- R103 against R108: the decoding procedure takes exactly the words some row of the table selects; it gives an instruction
exactly where the row's must-be-zero bits are zero too; and no word is selected by two rows. -/
def Obligations.DecodeAgreesWithTheRowTable : Prop :=
  (∀ w : Word, (∃ i, decode w = .ok i) ↔ WellFormed.word w = true) ∧
  (∀ w : Word, decode w = .unassigned ↔ WellFormed.assigned w = false) ∧
  ∀ w : Word, WellFormed.rows.Pairwise (fun r q => ¬ (WellFormed.selects w r = true ∧ WellFormed.selects w q = true))

/-- R105, R203: the words that select no instruction are exactly the two groups of R105. That these words are the unassigned
ones is R105's list. -/
def Obligations.UnassignedWordsAreTheTwoGroups : Prop :=
  ∀ w : Word, decode w = .unassigned ↔ (w &&& 0xf803 = 0x1003 ∨ w &&& 0xf800 = 0xb800)

/-- Fifteen words written out in 95_test_vectors.md decode to the instructions they are written out for, or to none; and one
word made from R106's own field, `rfi` with a one in bit 0, is a must-be-zero violation. -/
def Obligations.SpecWordsDecode : Prop :=
  decode 0x0028 = .ok (.or .r0 .r1 .r2) ∧ decode 0x0B44 = .ok (.add .r3 .r2 .r1) ∧
  decode 0x102A = .ok (.shra .r0 .r1 .r2) ∧ decode 0x480F = .ok (.nori .r0 0x0F) ∧
  decode 0x680F = .ok (.shrai .r0 15) ∧ decode 0x7700 = .ok (.lhswp .r7) ∧ decode 0x7FFE = .ok (.ba (-2)) ∧
  decode 0x89FD = .ok (.bz .r1 (-3)) ∧ decode 0xA910 = .ok (.ldw .r1 .r0 (-16)) ∧
  decode 0xC104 = .ok (.sc .r1 .r0 4) ∧ decode 0xD1FF = .ok (.mtcp .r1 .cp7 31) ∧
  decode 0xE123 = .ok (.int 0x123) ∧ decode 0xF81A = .ok (.mtctl .r0 .iack) ∧
  decode 0x1003 = .unassigned ∧ decode 0xB800 = .unassigned ∧ decode 0xE801 = .mustBeZero .rfi

/-! ## The step -/

/-- R212: where no interrupt is accepted, the fetch is answered and the fetched word decodes to an instruction, the step is
that instruction, executed in the state the boundary and the fetch have left. -/
def Obligations.StepRunsTheDecodedInstruction : Prop :=
  ∀ (s : State) (i : Instr), s.atBoundary.acceptedInterrupt = none → s.fetched.fetchAnswer = .answers →
    decode s.fetched.fetchedWord = .ok i → step s = exec i s.fetched

/-- R267, R92, R235: what a boundary and a fetch change before the instruction runs. The sample is the scripted one where there
is one, and else has the free draws, answering controllers and no foreign write; the link is cleared by LLINVAL and by nothing
else; the counter is the drawn one; data memory holds, at every address other masters wrote, the last word they wrote there,
and at every other address what it held; an attached NVRAM has moved, and none is attached or removed; one fetch has gone out;
and everything else of the CPU and instruction memory is unchanged. That boundaries are scripted by a list and else free, and
what an unscripted one leaves out, is the model's choice (logs 4 and 6); so are the order of the boundary's moves and the
drawing of the counter at it (logs 13 and 32), and that the NVRAM moves there (log 18). -/
def Obligations.BoundaryLeavesTheCpuUnchanged : Prop :=
  ∀ s : State,
    s.fetched.now = s.sample ∧ s.fetched.inputs = s.inputs.tail ∧ s.fetched.boundaries = s.boundaries + 1 ∧
    (∀ b bs, s.inputs = b :: bs → s.sample = b) ∧
    (s.inputs = [] → s.sample.draws = Config.environment s.boundaries ∧ s.sample.instrBus = .answers ∧
      s.sample.dataBus = .answers ∧ s.sample.busWrites = []) ∧
    s.fetched.status = { s.status with l := s.status.l && !s.sample.draws.llinval } ∧
    (s.fetched.counterHi ++ s.fetched.counterLo : BitVec 32) = s.sample.draws.counter ∧
    (∀ a, (∀ p ∈ s.sample.busWrites, p.1.toNat ≠ a) → s.fetched.dmem.read a = s.dmem.read a) ∧
    (∀ a v ps qs, s.sample.busWrites = ps ++ (a, v) :: qs → (∀ p ∈ qs, p.1 ≠ a) →
      s.fetched.dmem.read a.toNat = v) ∧
    s.fetched.nvram = s.nvram.map (Nvram.advance s.sample.draws.nvram) ∧
    s.fetched.events = .fetch s.pc :: s.events ∧
    s.sameRegs s.fetched ∧ s.fetched.pc = s.pc ∧ s.fetched.epc = s.epc ∧ s.fetched.epcSaved = s.epcSaved ∧
    s.fetched.ifaulthdl = s.ifaulthdl ∧ s.fetched.dfaulthdl = s.dfaulthdl ∧ s.fetched.swihdl = s.swihdl ∧
    s.fetched.illophdl = s.illophdl ∧ s.fetched.privophdl = s.privophdl ∧ s.fetched.exihdl = s.exihdl ∧
    s.fetched.ienable = s.ienable ∧ s.fetched.umcpen = s.umcpen ∧ s.fetched.imem = s.imem ∧
    s.fetched.ifaults = s.ifaults ∧ s.fetched.dfaults = s.dfaults ∧ s.fetched.params = s.params

/-- R201: a refused fetch takes the instruction-fetch trap, with EPC the address that faulted and vector IFAULTHDL; a fetch
that is never answered leaves the machine stuck (U9). The stuck outcome is the model's reading of U9 (log 8). -/
def Obligations.FetchFaultTraps : Prop :=
  ∀ s : State, s.atBoundary.acceptedInterrupt = none →
    (s.fetched.fetchAnswer = .refuses →
      ∃ t, step s = .next t ∧ s.fetched.trapTaken t s.pc s.ifaulthdl s.status.a) ∧
    (s.fetched.fetchAnswer = .silent → step s = .fault .instructionBusSilent)

/-- R105, R203: an unassigned word takes the illegal-operation trap in either mode, with EPC the word's own address and
vector ILLOPHDL. That an unassigned word is an illegal operation is the spec's own decision D6 (log 22). -/
def Obligations.UnassignedWordTraps : Prop :=
  ∀ s : State, s.atBoundary.acceptedInterrupt = none → s.fetched.fetchAnswer = .answers →
    (s.fetched.fetchedWord &&& 0xf803 = 0x1003 ∨ s.fetched.fetchedWord &&& 0xf800 = 0xb800) →
    ∃ t, step s = .next t ∧ s.fetched.trapTaken t s.pc s.illophdl s.status.a

/-- R106 and D5: the words in question are those that a row of R103 selects and that have a one in the row's must-be-zero field,
and the instruction decoded from one is the instruction of the same word with that field zero. Such a word has no meaning, runs
as if the bits were zero, or takes the illegal-operation trap, as `MBZ_POLICY` says: the spec's own decision D5 (log 9). -/
def Obligations.MustBeZeroWordsFollowThePolicy : Prop :=
  (∀ (w : Word) (i : Instr), decode w = .mustBeZero i ↔
    ∃ r ∈ WellFormed.rows, WellFormed.selects w r = true ∧ w &&& r.mbz ≠ 0 ∧ decode (w &&& ~~~r.mbz) = .ok i) ∧
  ∀ (s : State) (i : Instr), s.atBoundary.acceptedInterrupt = none → s.fetched.fetchAnswer = .answers →
    decode s.fetched.fetchedWord = .mustBeZero i →
    (s.params.mbzPolicy = .refuse → step s = .refused .mustBeZero) ∧
    (s.params.mbzPolicy = .ignore → step s = exec i s.fetched) ∧
    (s.params.mbzPolicy = .illegal →
      ∃ t, step s = .next t ∧ s.fetched.trapTaken t s.pc s.illophdl s.status.a)

/-- R210, R213: with STATUS.E set, the step takes the external interrupt of the highest-numbered source that is enabled in
IENABLE and whose pin is high: the vector is its handler register and EPC is the address of the instruction not executed.
That masked sources do not count is the spec's own decision D19, and that the sample of the boundary decides is D14 (log
23). -/
def Obligations.HighestDeliverableInterruptIsTaken : Prop :=
  ∀ (s : State) (n : CpNum), s.status.e = true →
    numberedBit s.ienable n = true → s.atBoundary.pin n = true →
    (∀ m : CpNum, n.bits.toNat < m.bits.toNat → ¬ (numberedBit s.ienable m = true ∧ s.atBoundary.pin m = true)) →
    ∃ t, step s = .next t ∧ s.atBoundary.trapTaken t s.pc (s.exihdl.get n) s.status.a

/-- R206, R211: with STATUS.E clear, or no source both enabled and pending, no interrupt is taken: the step fetches. Reading
STATUS.E as the gate of external interrupts only is the spec's own decision D18 (log 23). -/
def Obligations.DisabledOrMaskedInterruptsAreNotTaken : Prop :=
  ∀ s : State,
    (s.status.e = false ∨ ∀ n : CpNum, ¬ (numberedBit s.ienable n = true ∧ s.atBoundary.pin n = true)) →
    s.atBoundary.acceptedInterrupt = none ∧ step s = s.fetched.runFetched

/-- R266, D21: at a finished state the run stays for ever: every further step is a next state, which the boundary and the fetch
alone have changed (`State.idle`), still finished, with `pc`, the general registers, EPC, EPCSAVED, the handler and enable
registers, instruction memory and STATUS, but for a link that LLINVAL may clear, as they were. The convention is the spec's own
decision D21. -/
def Obligations.FinishedStateStays : Prop :=
  ∀ (s : State) (k : Nat), s.finished →
    Host.Core.run core k s = .next (s.idle k) ∧ (s.idle k).finished ∧ (s.idle k).pc = s.pc ∧ s.sameRegs (s.idle k) ∧
    (s.idle k).epc = s.epc ∧ (s.idle k).epcSaved = s.epcSaved ∧ (s.idle k).ifaulthdl = s.ifaulthdl ∧
    (s.idle k).dfaulthdl = s.dfaulthdl ∧ (s.idle k).swihdl = s.swihdl ∧ (s.idle k).illophdl = s.illophdl ∧
    (s.idle k).privophdl = s.privophdl ∧ (s.idle k).exihdl = s.exihdl ∧ (s.idle k).ienable = s.ienable ∧
    (s.idle k).umcpen = s.umcpen ∧ (s.idle k).imem = s.imem ∧
    (s.idle k).status = { s.status with l := (s.idle k).status.l } ∧
    ((s.idle k).status.l = true → s.status.l = true)

/-- R50, R250: after reset every register and STATUS are zero, so the machine is in supervisor mode with interrupts disabled
and no link; the first fetch is of word 0. -/
def Obligations.ResetClearsEveryRegister : Prop :=
  (∀ r : Reg, State.reset.xu.get r = 0 ∧ State.reset.xs.get r = 0) ∧ State.reset.pc = 0 ∧ State.reset.epc = 0 ∧
  State.reset.epcSaved = 0 ∧ State.reset.status.toWord = 0 ∧ State.reset.status.m = false ∧
  State.reset.status.e = false ∧ State.reset.status.l = false ∧ State.reset.ifaulthdl = 0 ∧
  State.reset.dfaulthdl = 0 ∧ State.reset.swihdl = 0 ∧ State.reset.illophdl = 0 ∧ State.reset.privophdl = 0 ∧
  (∀ n : CpNum, State.reset.exihdl.get n = 0) ∧ State.reset.ienable = 0 ∧ State.reset.umcpen = 0 ∧
  State.reset.counterLo = 0 ∧ State.reset.counterHi = 0 ∧ State.reset.fetched.events = [.fetch 0]

/-! ## Bitwise operations -/

/-- R131 to R134: encoding, result bit by bit, and frame of or, and, nor, xor. -/
def Obligations.BitwiseThreeRegisterForms : Prop :=
  (∀ w : Word, opcodeOf w = 0b00000 →
    (w.extractLsb' 0 2 = 0b00 → decode w = .ok (.or (regField w 8) (regField w 5) (regField w 2))) ∧
    (w.extractLsb' 0 2 = 0b01 → decode w = .ok (.and (regField w 8) (regField w 5) (regField w 2))) ∧
    (w.extractLsb' 0 2 = 0b10 → decode w = .ok (.nor (regField w 8) (regField w 5) (regField w 2))) ∧
    (w.extractLsb' 0 2 = 0b11 → decode w = .ok (.xor (regField w 8) (regField w 5) (regField w 2)))) ∧
  ∀ (d a b : Reg) (s : State),
    CompletesWriting (.or d a b) d s
      (fun v => ∀ k < 16, v.getLsbD k = ((s.reg a).getLsbD k || (s.reg b).getLsbD k)) ∧
    CompletesWriting (.and d a b) d s
      (fun v => ∀ k < 16, v.getLsbD k = ((s.reg a).getLsbD k && (s.reg b).getLsbD k)) ∧
    CompletesWriting (.nor d a b) d s
      (fun v => ∀ k < 16, v.getLsbD k = !((s.reg a).getLsbD k || (s.reg b).getLsbD k)) ∧
    CompletesWriting (.xor d a b) d s
      (fun v => ∀ k < 16, v.getLsbD k = ((s.reg a).getLsbD k != (s.reg b).getLsbD k))

/-- R135 to R138: encoding, result bit by bit (the high half is kept), and frame of andi, ori, nori, xori. -/
def Obligations.BitwiseImmediateFormsKeepTheHighHalf : Prop :=
  (∀ w : Word,
    (opcodeOf w = 0b00111 → decode w = .ok (.andi (regField w 8) (w.extractLsb' 0 8))) ∧
    (opcodeOf w = 0b01000 → decode w = .ok (.ori (regField w 8) (w.extractLsb' 0 8))) ∧
    (opcodeOf w = 0b01001 → decode w = .ok (.nori (regField w 8) (w.extractLsb' 0 8))) ∧
    (opcodeOf w = 0b01010 → decode w = .ok (.xori (regField w 8) (w.extractLsb' 0 8)))) ∧
  ∀ (t : Reg) (val : BitVec 8) (s : State),
    CompletesWriting (.andi t val) t s (fun v =>
      (∀ k < 8, v.getLsbD k = ((s.reg t).getLsbD k && val.getLsbD k)) ∧
      ∀ k, 8 ≤ k → k < 16 → v.getLsbD k = (s.reg t).getLsbD k) ∧
    CompletesWriting (.ori t val) t s (fun v =>
      (∀ k < 8, v.getLsbD k = ((s.reg t).getLsbD k || val.getLsbD k)) ∧
      ∀ k, 8 ≤ k → k < 16 → v.getLsbD k = (s.reg t).getLsbD k) ∧
    CompletesWriting (.nori t val) t s (fun v =>
      (∀ k < 8, v.getLsbD k = !((s.reg t).getLsbD k || val.getLsbD k)) ∧
      ∀ k, 8 ≤ k → k < 16 → v.getLsbD k = (s.reg t).getLsbD k) ∧
    CompletesWriting (.xori t val) t s (fun v =>
      (∀ k < 8, v.getLsbD k = ((s.reg t).getLsbD k != val.getLsbD k)) ∧
      ∀ k, 8 ≤ k → k < 16 → v.getLsbD k = (s.reg t).getLsbD k)

/-! ## Arithmetic -/

/-- R141, R142: encoding of add and sub; the sum and the difference modulo 2^16, signed overflow included, and the frame,
where `OVERFLOW_TRAP` is false or nothing overflows; and where it is true and the exact signed result is out of range, no
write and the trap through ILLOPHDL with EPC = pc + 1. That the trap is off by default and what it does where it is on is
the spec's own decision D7 (log 10). -/
def Obligations.AddAndSub : Prop :=
  (∀ w : Word, opcodeOf w = 0b00001 →
    (w.extractLsb' 0 2 = 0b00 → decode w = .ok (.add (regField w 8) (regField w 5) (regField w 2))) ∧
    (w.extractLsb' 0 2 = 0b01 → decode w = .ok (.sub (regField w 8) (regField w 5) (regField w 2)))) ∧
  ∀ (d a b : Reg) (s : State),
    ((s.params.overflowTrap = false ∨
        (-32768 ≤ (s.reg a).toInt + (s.reg b).toInt ∧ (s.reg a).toInt + (s.reg b).toInt ≤ 32767)) →
      CompletesWriting (.add d a b) d s (fun v => v.toNat = ((s.reg a).toNat + (s.reg b).toNat) % 2 ^ 16)) ∧
    ((s.params.overflowTrap = true ∧
        ((s.reg a).toInt + (s.reg b).toInt < -32768 ∨ 32767 < (s.reg a).toInt + (s.reg b).toInt)) →
      ∃ t, exec (.add d a b) s = .next t ∧ s.trapTaken t (s.pc + 1) s.illophdl s.status.a) ∧
    ((s.params.overflowTrap = false ∨
        (-32768 ≤ (s.reg a).toInt - (s.reg b).toInt ∧ (s.reg a).toInt - (s.reg b).toInt ≤ 32767)) →
      CompletesWriting (.sub d a b) d s
        (fun v => v.toNat = ((s.reg a).toNat + (2 ^ 16 - (s.reg b).toNat)) % 2 ^ 16)) ∧
    ((s.params.overflowTrap = true ∧
        ((s.reg a).toInt - (s.reg b).toInt < -32768 ∨ 32767 < (s.reg a).toInt - (s.reg b).toInt)) →
      ∃ t, exec (.sub d a b) s = .next t ∧ s.trapTaken t (s.pc + 1) s.illophdl s.status.a)

/-- R143, R144: encoding, result (the unsigned carry, the unsigned borrow, as 0 or 1), and frame of addc and subc. Reading
"overflows" as the unsigned carry is the spec's own decision D12 (log 24). -/
def Obligations.CarryAndBorrow : Prop :=
  (∀ w : Word, opcodeOf w = 0b00001 →
    (w.extractLsb' 0 2 = 0b10 → decode w = .ok (.addc (regField w 8) (regField w 5) (regField w 2))) ∧
    (w.extractLsb' 0 2 = 0b11 → decode w = .ok (.subc (regField w 8) (regField w 5) (regField w 2)))) ∧
  ∀ (d a b : Reg) (s : State),
    CompletesWriting (.addc d a b) d s (fun v => v.toNat = ((s.reg a).toNat + (s.reg b).toNat) / 2 ^ 16) ∧
    CompletesWriting (.subc d a b) d s (fun v => v.toNat = if (s.reg a).toNat < (s.reg b).toNat then 1 else 0)

/-- R145, R146: encoding, result modulo 2^16 with the immediate unsigned, and frame of inci and deci. -/
def Obligations.IncrementAndDecrement : Prop :=
  (∀ w : Word,
    (opcodeOf w = 0b00101 → decode w = .ok (.inci (regField w 8) (w.extractLsb' 0 8))) ∧
    (opcodeOf w = 0b00110 → decode w = .ok (.deci (regField w 8) (w.extractLsb' 0 8)))) ∧
  ∀ (t : Reg) (val : BitVec 8) (s : State),
    CompletesWriting (.inci t val) t s (fun v => v.toNat = ((s.reg t).toNat + val.toNat) % 2 ^ 16) ∧
    CompletesWriting (.deci t val) t s (fun v => v.toNat = ((s.reg t).toNat + (2 ^ 16 - val.toNat)) % 2 ^ 16)

/-- R143 with R141: the carry of addc and the sum of add give the exact 17-bit sum of the operands, which is what D12 reads
addc for. -/
def Obligations.CarryCompletesTheSum : Prop :=
  ∀ (d e a b : Reg) (s t : State), s.params.overflowTrap = false → d ≠ a → d ≠ b → d ≠ e →
    exec (.addc d a b) s = .next t →
    ∃ u, exec (.add e a b) t = .next u ∧
      (u.reg d).toNat * 2 ^ 16 + (u.reg e).toNat = (s.reg a).toNat + (s.reg b).toNat

/-! ## Shifts -/

/-- R151 to R153: encoding, result and frame of shl, shr, shra for every amount, as `SHIFT_REG_AMOUNT` has it: an amount n
below 16, and under `full` any n, shifts by n; `low4` shifts by n modulo 16; `refuse` has no meaning for n of 16 or more.
The three meanings of a long amount are the spec's own decision D8 (log 11). -/
def Obligations.ShiftsByARegister : Prop :=
  (∀ w : Word, opcodeOf w = 0b00010 →
    (w.extractLsb' 0 2 = 0b00 → decode w = .ok (.shl (regField w 8) (regField w 5) (regField w 2))) ∧
    (w.extractLsb' 0 2 = 0b01 → decode w = .ok (.shr (regField w 8) (regField w 5) (regField w 2))) ∧
    (w.extractLsb' 0 2 = 0b10 → decode w = .ok (.shra (regField w 8) (regField w 5) (regField w 2)))) ∧
  ∀ (d a b : Reg) (s : State) (n : Nat),
    ((n = (s.reg b).toNat ∧ (n < 16 ∨ s.params.shiftAmount = .full)) ∨
      (n = (s.reg b).toNat % 16 ∧ s.params.shiftAmount = .low4) →
      CompletesWriting (.shl d a b) d s (fun v => v.toNat = ((s.reg a).toNat * 2 ^ n) % 2 ^ 16) ∧
      CompletesWriting (.shr d a b) d s (fun v => v.toNat = (s.reg a).toNat / 2 ^ n) ∧
      CompletesWriting (.shra d a b) d s (fun v => v.toInt = (s.reg a).toInt / 2 ^ n)) ∧
    (16 ≤ (s.reg b).toNat → s.params.shiftAmount = .refuse →
      exec (.shl d a b) s = .refused .shiftAmount ∧ exec (.shr d a b) s = .refused .shiftAmount ∧
      exec (.shra d a b) s = .refused .shiftAmount)

/-- R150, D8: under `full`, a register amount of 16 or more gives 0x0000 for shl and shr and sixteen copies of bit 15 for
shra. -/
def Obligations.LongShiftsUnderFull : Prop :=
  ∀ (d a b : Reg) (s : State), s.params.shiftAmount = .full → 16 ≤ (s.reg b).toNat →
    CompletesWriting (.shl d a b) d s (fun v => v = 0x0000) ∧
    CompletesWriting (.shr d a b) d s (fun v => v = 0x0000) ∧
    CompletesWriting (.shra d a b) d s (fun v => v = if (s.reg a).getLsbD 15 then 0xFFFF else 0x0000)

/-- R154 to R157: encoding (with must-be-zero fields zero), result and frame of shli, shri, shrai, lhswp. -/
def Obligations.ShiftsByAnImmediateAndSwap : Prop :=
  (∀ w : Word,
    (w.extractLsb' 4 4 = 0 →
      (opcodeOf w = 0b01011 → decode w = .ok (.shli (regField w 8) (w.extractLsb' 0 4))) ∧
      (opcodeOf w = 0b01100 → decode w = .ok (.shri (regField w 8) (w.extractLsb' 0 4))) ∧
      (opcodeOf w = 0b01101 → decode w = .ok (.shrai (regField w 8) (w.extractLsb' 0 4)))) ∧
    (w.extractLsb' 0 8 = 0 → opcodeOf w = 0b01110 → decode w = .ok (.lhswp (regField w 8)))) ∧
  (∀ (t : Reg) (val : BitVec 4) (s : State),
    CompletesWriting (.shli t val) t s (fun v => v.toNat = ((s.reg t).toNat * 2 ^ val.toNat) % 2 ^ 16) ∧
    CompletesWriting (.shri t val) t s (fun v => v.toNat = (s.reg t).toNat / 2 ^ val.toNat) ∧
    CompletesWriting (.shrai t val) t s (fun v => v.toInt = (s.reg t).toInt / 2 ^ val.toNat)) ∧
  ∀ (t : Reg) (s : State),
    CompletesWriting (.lhswp t) t s
      (fun v => v.toNat = ((s.reg t).toNat % 2 ^ 8) * 2 ^ 8 + (s.reg t).toNat / 2 ^ 8)

/-! ## Branches -/

/-- R161, R162: encoding, target, link and frame of ba and bal. The offset is signed and relative to the branch itself. -/
def Obligations.BranchAlways : Prop :=
  (∀ w : Word,
    (opcodeOf w = 0b01111 → decode w = .ok (.ba (w.extractLsb' 0 11))) ∧
    (opcodeOf w = 0b10000 → decode w = .ok (.bal (w.extractLsb' 0 11)))) ∧
  ∀ (off : BitVec 11) (s : State),
    CompletesJumping (.ba off) s (fun p => (p.toNat : Int) = (s.pc.toNat + off.toInt) % 2 ^ 16) ∧
    CompletesLinking (.bal off) s (fun p => (p.toNat : Int) = (s.pc.toNat + off.toInt) % 2 ^ 16)

/-- R163, R164: encoding, target and frame of bz and bnz, taken and not taken. -/
def Obligations.BranchOnZeroAndNonzero : Prop :=
  (∀ w : Word,
    (opcodeOf w = 0b10001 → decode w = .ok (.bz (regField w 8) (w.extractLsb' 0 8))) ∧
    (opcodeOf w = 0b10010 → decode w = .ok (.bnz (regField w 8) (w.extractLsb' 0 8)))) ∧
  ∀ (t : Reg) (off : BitVec 8) (s : State),
    CompletesJumping (.bz t off) s (fun p =>
      (p.toNat : Int) = (if s.reg t = 0x0000 then (s.pc.toNat : Int) + off.toInt else s.pc.toNat + 1) % 2 ^ 16) ∧
    CompletesJumping (.bnz t off) s (fun p =>
      (p.toNat : Int) = (if s.reg t ≠ 0x0000 then (s.pc.toNat : Int) + off.toInt else s.pc.toNat + 1) % 2 ^ 16)

/-- R165, R166: encoding, target, link and frame of jr and jlr. The target uses the register as it was before the link. -/
def Obligations.JumpToARegister : Prop :=
  (∀ w : Word,
    (opcodeOf w = 0b10011 → decode w = .ok (.jr (regField w 8) (w.extractLsb' 0 8))) ∧
    (opcodeOf w = 0b10100 → decode w = .ok (.jlr (regField w 8) (w.extractLsb' 0 8)))) ∧
  ∀ (r : Reg) (off : BitVec 8) (s : State),
    CompletesJumping (.jr r off) s (fun p => (p.toNat : Int) = ((s.reg r).toNat + off.toInt) % 2 ^ 16) ∧
    CompletesLinking (.jlr r off) s (fun p => (p.toNat : Int) = ((s.reg r).toNat + off.toInt) % 2 ^ 16)

/-- R167, R162, R165: after a `bal` (and whatever keeps R7 and the mode), `jr R7, #0` continues at the instruction after the
`bal`. -/
def Obligations.ReturnFromBranchAndLink : Prop :=
  ∀ (off : BitVec 11) (s t u : State), exec (.bal off) s = .next t → u.reg .r7 = t.reg .r7 →
    ∃ v, exec (.jr .r7 0) u = .next v ∧ v.pc.toNat = (s.pc.toNat + 1) % 2 ^ 16

/-! ## Load and store -/

/-- R170, R171: encoding, result and frame of li and shlli. -/
def Obligations.LoadImmediate : Prop :=
  (∀ w : Word,
    (opcodeOf w = 0b00011 → decode w = .ok (.li (regField w 8) (w.extractLsb' 0 8))) ∧
    (opcodeOf w = 0b00100 → decode w = .ok (.shlli (regField w 8) (w.extractLsb' 0 8)))) ∧
  ∀ (t : Reg) (val : BitVec 8) (s : State),
    CompletesWriting (.li t val) t s (fun v => v.toNat = val.toNat) ∧
    CompletesWriting (.shlli t val) t s (fun v => v.toNat = ((s.reg t).toNat % 2 ^ 8) * 2 ^ 8 + val.toNat)

/-- R78: the effective address of a data access is the base register plus the signed word offset, modulo 2^16. The wrap is
the spec's own decision D3 (log 21). -/
def Obligations.EffectiveAddress : Prop :=
  ∀ (a : Reg) (off : BitVec 5) (s : State),
    ((s.dataAddress a off).toNat : Int) = ((s.reg a).toNat + off.toInt) % 2 ^ 16

/-- R172: encoding, result, link and frame of ldw where the access is answered, the data-fault trap with the link cleared and
the destination kept where it is refused, and no further step where the controller is silent (U9). One read goes out. -/
def Obligations.LoadWord : Prop :=
  (∀ w : Word, opcodeOf w = 0b10101 → decode w = .ok (.ldw (regField w 8) (regField w 5) (w.extractLsb' 0 5))) ∧
  ∀ (v a : Reg) (off : BitVec 5) (s : State),
    (s.dataAnswer (s.dataAddress a off) = .answers →
      ∃ t, exec (.ldw v a off) s = .next t ∧ t.reg v = s.dmem.read (s.dataAddress a off).toNat ∧
        t.status = { s.status with l := true } ∧ s.pcAdvanced t ∧ s.sameRegsBut v t ∧ s.sameControl t ∧
        s.sameMemory t ∧ s.samePlatform t ∧ t.nvram = s.nvram ∧
        t.events = .dataRead (s.dataAddress a off) :: s.events) ∧
    (s.dataAnswer (s.dataAddress a off) = .refuses →
      ∃ t, exec (.ldw v a off) s = .next t ∧ s.dataFaultTaken t false (.dataRead (s.dataAddress a off))) ∧
    (s.dataAnswer (s.dataAddress a off) = .silent → exec (.ldw v a off) s = .fault .dataBusSilent)

/-- R173: encoding, store, link and frame of stw where the access is answered, the data-fault trap with the link cleared and
memory unchanged where it is refused, and no further step where the controller is silent (U9). That a refused store leaves
memory unchanged is the spec's own decision D2 (log 27). -/
def Obligations.StoreWord : Prop :=
  (∀ w : Word, opcodeOf w = 0b10110 → decode w = .ok (.stw (regField w 8) (regField w 5) (w.extractLsb' 0 5))) ∧
  ∀ (v a : Reg) (off : BitVec 5) (s : State),
    (s.dataAnswer (s.dataAddress a off) = .answers →
      ∃ t, exec (.stw v a off) s = .next t ∧ t.dmem.read (s.dataAddress a off).toNat = s.reg v ∧
        s.sameMemoryBut (s.dataAddress a off) t ∧ t.status = { s.status with l := false } ∧ s.pcAdvanced t ∧
        s.sameRegs t ∧ s.sameControl t ∧ s.samePlatform t ∧ t.nvram = s.nvram ∧
        t.events = .dataWrite (s.dataAddress a off) (s.reg v) :: s.events) ∧
    (s.dataAnswer (s.dataAddress a off) = .refuses →
      ∃ t, exec (.stw v a off) s = .next t ∧
        s.dataFaultTaken t false (.dataWrite (s.dataAddress a off) (s.reg v))) ∧
    (s.dataAnswer (s.dataAddress a off) = .silent → exec (.stw v a off) s = .fault .dataBusSilent)

/-- R174: encoding and frame of sc. Without the link it writes 0 to the register and makes no access. With it, where the
access is answered, it stores the old register, writes 1 to it and clears the link; where it is refused, it takes the
data-fault trap with register and link unchanged; where the controller is silent, there is no further step (U9). That a
refused store leaves memory unchanged is the spec's own decision D2 (log 27). -/
def Obligations.StoreConditional : Prop :=
  (∀ w : Word, opcodeOf w = 0b11000 → decode w = .ok (.sc (regField w 8) (regField w 5) (w.extractLsb' 0 5))) ∧
  ∀ (v a : Reg) (off : BitVec 5) (s : State),
    (s.status.l = false → CompletesWriting (.sc v a off) v s (fun x => x = 0)) ∧
    (s.status.l = true → s.dataAnswer (s.dataAddress a off) = .answers →
      ∃ t, exec (.sc v a off) s = .next t ∧ t.reg v = 1 ∧ t.dmem.read (s.dataAddress a off).toNat = s.reg v ∧
        s.sameMemoryBut (s.dataAddress a off) t ∧ t.status = { s.status with l := false } ∧ s.pcAdvanced t ∧
        s.sameRegsBut v t ∧ s.sameControl t ∧ s.samePlatform t ∧ t.nvram = s.nvram ∧
        t.events = .dataWrite (s.dataAddress a off) (s.reg v) :: s.events) ∧
    (s.status.l = true → s.dataAnswer (s.dataAddress a off) = .refuses →
      ∃ t, exec (.sc v a off) s = .next t ∧
        s.dataFaultTaken t true (.dataWrite (s.dataAddress a off) (s.reg v))) ∧
    (s.status.l = true → s.dataAnswer (s.dataAddress a off) = .silent →
      exec (.sc v a off) s = .fault .dataBusSilent)

/-- R90, R91: the link carries no address: after a completed ldw, an sc that the controller answers stores, to whatever
address, and a second sc right after it fails without an access. -/
def Obligations.LinkCarriesNoAddress : Prop :=
  ∀ (v a v' a' : Reg) (off off' : BitVec 5) (s t : State),
    s.dataAnswer (s.dataAddress a off) = .answers → exec (.ldw v a off) s = .next t →
    t.dataAnswer (t.dataAddress a' off') = .answers →
    ∃ u, exec (.sc v' a' off') t = .next u ∧ u.reg v' = 1 ∧
      u.dmem.read (t.dataAddress a' off').toNat = t.reg v' ∧
      ∃ w, exec (.sc v' a' off') u = .next w ∧ w.reg v' = 0 ∧ w.events = u.events

/-- R92, D15: a step at whose boundary LLINVAL is asserted and which executes an sc stores nothing: the register gets 0. -/
def Obligations.LlinvalMakesStoreConditionalFail : Prop :=
  ∀ (s : State) (v a : Reg) (off : BitVec 5), s.sample.draws.llinval = true → s.runs (.sc v a off) →
    ∃ t, step s = .next t ∧ t.reg v = 0 ∧ t.status.l = false ∧ t.dmem = s.fetched.dmem

/-- R91: from a state whose link is set after the boundary, a step that ends with the link clear has executed an stw, an ldw
whose access was refused, an sc whose access was answered, or an mtctl to STATUS with bit 12 clear; an interrupt or any
other trap leaves it set. LLINVAL, the remaining cause, acts at the boundary: see `BoundaryLeavesTheCpuUnchanged`. -/
def Obligations.WhatClearsTheLink : Prop :=
  ∀ s t : State, step s = .next t → s.fetched.status.l = true → t.status.l = false →
    (∃ v a off, s.runs (.stw v a off)) ∨
    (∃ v a off, s.runs (.ldw v a off) ∧ s.fetched.dataAnswer (s.fetched.dataAddress a off) = .refuses) ∨
    (∃ v a off, s.runs (.sc v a off) ∧ s.fetched.dataAnswer (s.fetched.dataAddress a off) = .answers) ∨
    (∃ src, s.runs (.mtctl src .status) ∧ (s.fetched.reg src).getLsbD 12 = false)

/-- R87, R76, R77: a load returns what the program-order-latest store put at its address: where both accesses are answered,
an ldw right after an stw, whose effective address is the stw's, gives the stored register's value; and from another
address, the word data memory held before the stw. -/
def Obligations.LoadAfterStore : Prop :=
  ∀ (v a v' a' : Reg) (off off' : BitVec 5) (s t : State),
    s.dataAnswer (s.dataAddress a off) = .answers → exec (.stw v a off) s = .next t →
    t.dataAnswer (t.dataAddress a' off') = .answers →
    ∃ u, exec (.ldw v' a' off') t = .next u ∧
      u.reg v' = if t.dataAddress a' off' = s.dataAddress a off then s.reg v
        else s.dmem.read (t.dataAddress a' off').toNat

/-! ## Coprocessors and control registers -/

/-- R184 to R186, R189: encoding, effect and frame of mfcp, mtcp and cpop where the access is not denied: supervisor mode,
or the coprocessor's UMCPEN bit set. Where no NVRAM is attached under that number, mfcp gives the drawn value, and mtcp and
cpop change nothing but `pc` and what has gone out. Reads as draws and writes as output events are the spec's own decision
D13 (log 17); the NVRAM is log 18. -/
def Obligations.CoprocessorAccess : Prop :=
  (∀ w : Word,
    (opcodeOf w = 0b11001 →
      decode w = .ok (.mfcp (regField w 8) (CpNum.ofBits (w.extractLsb' 5 3)) (w.extractLsb' 0 5))) ∧
    (opcodeOf w = 0b11010 →
      decode w = .ok (.mtcp (regField w 8) (CpNum.ofBits (w.extractLsb' 5 3)) (w.extractLsb' 0 5))) ∧
    (opcodeOf w = 0b11011 → w.extractLsb' 0 5 = 0 →
      decode w = .ok (.cpop (regField w 8) (CpNum.ofBits (w.extractLsb' 5 3))))) ∧
  ∀ (r : Reg) (n : CpNum) (k : BitVec 5) (s : State),
    (s.status.m = false ∨ numberedBit s.umcpen n = true) →
    (∃ t, exec (.mfcp r n k) s = .next t ∧ t.reg r = s.cpReadValue n k ∧
      ((∀ d, s.nvram = some d → d.number ≠ n) → t.reg r = s.now.draws.cvali) ∧
      s.pcAdvanced t ∧ s.sameRegsBut r t ∧ t.status = s.status ∧ s.sameControl t ∧ s.sameMemory t ∧
      s.samePlatform t ∧ t.nvram = s.nvram ∧ t.events = .cpRead n k :: s.events) ∧
    (∃ t, exec (.mtcp r n k) s = .next t ∧ t.events = .cpWrite n k (s.reg r) :: s.events ∧
      ((∀ d, s.nvram = some d → d.number ≠ n) → t.nvram = s.nvram) ∧
      s.pcAdvanced t ∧ s.sameRegs t ∧ t.status = s.status ∧ s.sameControl t ∧ s.sameMemory t ∧
      s.samePlatform t) ∧
    (∃ t, exec (.cpop r n) s = .next t ∧ t.events = .cpExec n (s.reg r) :: s.events ∧
      ((∀ d, s.nvram = some d → d.number ≠ n) → t.nvram = s.nvram) ∧
      s.pcAdvanced t ∧ s.sameRegs t ∧ t.status = s.status ∧ s.sameControl t ∧ s.sameMemory t ∧
      s.samePlatform t)

/-- R183, R209: in user mode with the coprocessor's UMCPEN bit clear, mfcp, mtcp and cpop do nothing on the coprocessor bus
and take the coprocessor-disabled trap, EPC the instruction itself, through ILLOPHDL or, where `COPROC_DENIED_VECTOR` says
so, PRIVOPHDL. The vector is the spec's own decision D11 (log 12). -/
def Obligations.DeniedCoprocessorAccessTraps : Prop :=
  ∀ (r : Reg) (n : CpNum) (k : BitVec 5) (s : State) (i : Instr),
    s.status.m = true → numberedBit s.umcpen n = false → (i = .mfcp r n k ∨ i = .mtcp r n k ∨ i = .cpop r n) →
    ∃ t, exec i s = .next t ∧
      s.trapTaken t s.pc (match s.params.coprocDenied with | .illop => s.illophdl | .privop => s.privophdl) s.status.a

/-- R187: encoding of mfctl, and in supervisor mode the value read from every control register the spec gives one, and the
frame. The bits it leaves open (IACK, C30, C31, the high halves of IENABLE, IPEND and UMCPEN) are not constrained. What they
read is free (logs 14 and 15). -/
def Obligations.MoveFromControl : Prop :=
  (∀ w : Word, opcodeOf w = 0b11110 → w.extractLsb' 5 3 = 0 →
    decode w = .ok (.mfctl (regField w 8) (CtlReg.ofBits (w.extractLsb' 0 5)))) ∧
  ∀ (d : Reg) (c : CtlReg) (s : State), s.status.m = false →
    CompletesWriting (.mfctl d c) d s (fun v =>
      (∀ r, c = .user r → v = s.xu.get r) ∧ (c = .epc → v = s.epc) ∧ (c = .epcsaved → v = s.epcSaved) ∧
      (c = .status → v = s.status.toWord) ∧ (c = .ifaulthdl → v = s.ifaulthdl) ∧
      (c = .dfaulthdl → v = s.dfaulthdl) ∧ (c = .swihdl → v = s.swihdl) ∧ (c = .illophdl → v = s.illophdl) ∧
      (c = .privophdl → v = s.privophdl) ∧ (∀ n, c = .exihdl n → v = s.exihdl.get n) ∧
      (c = .counterLo → v = s.counterLo) ∧ (c = .counterHi → v = s.counterHi) ∧
      (c = .ienable → ∀ k < 8, v.getLsbD k = s.ienable.getLsbD k) ∧
      (c = .umcpen → ∀ k < 8, v.getLsbD k = s.umcpen.getLsbD k) ∧
      (c = .ipend → ∀ n : CpNum, v.getLsbD n.bits.toNat = s.pin n))

/-- R188: encoding of mtctl, and in supervisor mode what it writes to every control register: the register named and nothing
else; IACK is an acknowledge event; IPEND, the counter, C30 and C31 take no write. That M is writable is the spec's own
decision D9 (log 26), that a read-only register takes no write D10 (log 15), and that bits 15..8 of IENABLE and UMCPEN are
stored is log 14. -/
def Obligations.MoveToControl : Prop :=
  (∀ w : Word, opcodeOf w = 0b11111 → w.extractLsb' 5 3 = 0 →
    decode w = .ok (.mtctl (regField w 8) (CtlReg.ofBits (w.extractLsb' 0 5)))) ∧
  ∀ (src : Reg) (c : CtlReg) (s : State), s.status.m = false →
    ∃ t, exec (.mtctl src c) s = .next t ∧ s.pcAdvanced t ∧ t.xs = s.xs ∧
      (∀ r, t.xu.get r = if c = .user r then s.xs.get src else s.xu.get r) ∧
      t.epc = (if c = .epc then s.xs.get src else s.epc) ∧
      t.epcSaved = (if c = .epcsaved then s.xs.get src else s.epcSaved) ∧
      t.status.toWord = (if c = .status then s.xs.get src else s.status.toWord) ∧
      t.ifaulthdl = (if c = .ifaulthdl then s.xs.get src else s.ifaulthdl) ∧
      t.dfaulthdl = (if c = .dfaulthdl then s.xs.get src else s.dfaulthdl) ∧
      t.swihdl = (if c = .swihdl then s.xs.get src else s.swihdl) ∧
      t.illophdl = (if c = .illophdl then s.xs.get src else s.illophdl) ∧
      t.privophdl = (if c = .privophdl then s.xs.get src else s.privophdl) ∧
      (∀ n, t.exihdl.get n = if c = .exihdl n then s.xs.get src else s.exihdl.get n) ∧
      t.ienable = (if c = .ienable then s.xs.get src else s.ienable) ∧
      t.umcpen = (if c = .umcpen then s.xs.get src else s.umcpen) ∧
      t.counterLo = s.counterLo ∧ t.counterHi = s.counterHi ∧
      t.events = (if c = .iack then .ack ((s.xs.get src).extractLsb' 0 8) :: s.events else s.events) ∧
      s.sameMemory t ∧ s.samePlatform t ∧ t.nvram = s.nvram

/-- R31, R38: STATUS as a word: each bit is the field R31 puts there, and a word written comes back as it was. -/
def Obligations.StatusLayout : Prop :=
  (∀ t : Status, t.toWord.getLsbD 15 = t.m ∧ t.toWord.getLsbD 14 = t.e ∧ t.toWord.getLsbD 13 = t.u ∧
    t.toWord.getLsbD 12 = t.l ∧ t.toWord.getLsbD 11 = t.s ∧ t.toWord.extractLsb' 0 11 = t.a) ∧
  (∀ w : Word, (Status.ofWord w).toWord = w) ∧ ∀ t : Status, Status.ofWord t.toWord = t

/-- R208: in user mode rfi, mfctl and mtctl have no effect but the privileged-operation trap, with EPC the instruction itself
and vector PRIVOPHDL. -/
def Obligations.PrivilegedInstructionsTrapInUserMode : Prop :=
  ∀ (r : Reg) (c : CtlReg) (s : State) (i : Instr), s.status.m = true →
    (i = .rfi ∨ i = .mfctl r c ∨ i = .mtctl r c) →
    ∃ t, exec i s = .next t ∧ s.trapTaken t s.pc s.privophdl s.status.a

/-! ## Traps and privilege -/

/-- R195: encoding and effect of int, in both modes and whatever STATUS.E holds: the trap entry with EPC = pc + 1, vector
SWIHDL and the argument in STATUS.A. -/
def Obligations.SoftwareInterrupt : Prop :=
  (∀ w : Word, opcodeOf w = 0b11100 → decode w = .ok (.int (w.extractLsb' 0 11))) ∧
  ∀ (arg : BitVec 11) (s : State), ∃ t, exec (.int arg) s = .next t ∧ s.trapTaken t (s.pc + 1) s.swihdl arg

/-- R196: the word of rfi; in supervisor mode its effect: pc from EPC, M from U, U from S, E set, EPC from EPCSAVED, and nothing
else changed; in user mode the privileged-operation trap with EPC the rfi itself, and nothing else. -/
def Obligations.ReturnFromInterrupt : Prop :=
  decode 0xE800 = .ok .rfi ∧
  ∀ s : State,
    (s.status.m = false → ∃ t, exec .rfi s = .next t ∧ t.pc = s.epc ∧ t.epc = s.epcSaved ∧ t.epcSaved = s.epcSaved ∧
      t.status = { s.status with m := s.status.u, u := s.status.s, e := true } ∧ s.sameRegs t ∧ s.sameHandlers t ∧
      s.sameMemory t ∧ s.samePlatform t ∧ s.samePins t) ∧
    (s.status.m = true → ∃ t, exec .rfi s = .next t ∧ s.trapTaken t s.pc s.privophdl s.status.a)

/-- R215, R216: rfi undoes one trap of any cause: right after the entry it resumes at the cause's EPC with M, U and EPC as
before the trap, every general register and both memories unchanged, and E set. -/
def Obligations.ReturnUndoesTrapEntry : Prop :=
  ∀ (c : Cause) (s : State),
    ∃ t, exec .rfi (s.raise c) = .next t ∧ t.pc = (s.raise c).epc ∧ t.status.m = s.status.m ∧
      t.status.u = s.status.u ∧ t.status.l = s.status.l ∧ t.epc = s.epc ∧ t.status.e = true ∧
      t.epcSaved = s.epc ∧ t.status.s = s.status.u ∧ s.sameRegs t ∧ s.sameHandlers t ∧ s.sameMemory t ∧
      s.samePlatform t ∧ s.samePins t

/-- R217: two levels of return state: a second trap taken from a handler, whatever that handler did to its registers and to
memory as long as it left EPC and STATUS.U alone, is unwound by two rfi, the second of which resumes the first trap's
interrupted program in its mode. -/
def Obligations.TwoNestedTrapsUnwind : Prop :=
  ∀ (c c' : Cause) (s h : State), h.epc = (s.raise c).epc → h.status.u = (s.raise c).status.u →
    h.status.m = false →
    ∃ t, exec .rfi (h.raise c') = .next t ∧ t.pc = (h.raise c').epc ∧ t.status.m = false ∧
      ∃ u, exec .rfi t = .next u ∧ u.pc = (s.raise c).epc ∧ u.status.m = s.status.m

/-- R200: the address each cause puts in EPC and the handler register it takes, as the table of R200 has them. The vector of
a denied coprocessor access is the spec's own decision D11 (log 12), and the illegal operation's resume address C14 (log
25). -/
def Obligations.TrapTable : Prop :=
  ∀ (s : State) (arg : BitVec 11) (n : CpNum),
    s.trapTaken (s.raise .instructionFetchFault) s.pc s.ifaulthdl s.status.a ∧
    s.trapTaken (s.raise .dataFault) s.pc s.dfaulthdl s.status.a ∧
    s.trapTaken (s.raise (.softwareInterrupt arg)) (s.pc + 1) s.swihdl arg ∧
    s.trapTaken (s.raise .illegalOperation) s.pc s.illophdl s.status.a ∧
    s.trapTaken (s.raise .privilegedOperation) s.pc s.privophdl s.status.a ∧
    s.trapTaken (s.raise (.coprocessorDisabled n)) s.pc
      (match s.params.coprocDenied with | .illop => s.illophdl | .privop => s.privophdl) s.status.a ∧
    s.trapTaken (s.raise (.externalInterrupt n)) s.pc (s.exihdl.get n) s.status.a

/-- R222, R215, R220: the complete list of the ways a step changes STATUS.M. To user mode: an rfi with STATUS.U set, or an mtctl
to STATUS of a word with bit 15 set. To supervisor mode: a trap entry, of one of the causes of R200 (or, where `OVERFLOW_TRAP`
is true, the overflow trap of the spec's own decision D7): it loads `pc` from the cause's register, one of the thirteen handler
registers, puts the cause's address in EPC, saves the old EPC, sets U, saves the old U, clears E, and leaves every general
register as it was. -/
def Obligations.ModeChangesOnlyAsListed : Prop :=
  ∀ s t : State, step s = .next t →
    (s.status.m = false → t.status.m = true →
      (s.runs .rfi ∧ s.status.u = true) ∨ ∃ src, s.runs (.mtctl src .status) ∧ (s.reg src).getLsbD 15 = true) ∧
    (s.status.m = true → t.status.m = false →
      (∃ c : Cause, t.pc = s.handler c ∧ t.epc = s.resumeAddress c ∧ t.status.a = s.trapArgument c ∧
        (c = .arithmeticOverflow → s.params.overflowTrap = true)) ∧
      (t.pc = s.ifaulthdl ∨ t.pc = s.dfaulthdl ∨ t.pc = s.swihdl ∨ t.pc = s.illophdl ∨ t.pc = s.privophdl ∨
        ∃ n, t.pc = s.exihdl.get n) ∧
      (t.epc = s.pc ∨ t.epc = s.pc + 1) ∧
      t.epcSaved = s.epc ∧ t.status.u = true ∧ t.status.e = false ∧ t.status.s = s.status.u ∧ s.sameRegs t)

/-- R23, R221: a step from user mode changes no supervisor register and no handler or enable register, whether or not it
traps; and if it does not trap, it changes no control register but the link state. -/
def Obligations.UserStepKeepsSupervisorState : Prop :=
  ∀ s t : State, step s = .next t → s.status.m = true →
    t.xs = s.xs ∧ t.ifaulthdl = s.ifaulthdl ∧ t.dfaulthdl = s.dfaulthdl ∧ t.swihdl = s.swihdl ∧
    t.illophdl = s.illophdl ∧ t.privophdl = s.privophdl ∧ t.exihdl = s.exihdl ∧ t.ienable = s.ienable ∧
    t.umcpen = s.umcpen ∧
    (t.status.m = true → t.epc = s.epc ∧ t.epcSaved = s.epcSaved ∧
      t.status = { s.status with l := t.status.l })

/-- R23, R221: an instruction that completes in user mode depends on nothing user code must not read: with the supervisor
bank, the control registers but UMCPEN and STATUS.M and L, and the counter replaced by any others, it does the same. -/
def Obligations.UserInstructionsReadNoSecret : Prop :=
  ∀ (i : Instr) (s t o : State), s.status.m = true → exec i s = .next t → t.status.m = true →
    exec i (s.withSecretsOf o) = .next (t.withSecretsOf o)

/-! ## Invariants of every step -/

/-- Every step keeps the canonical form of the memories: addresses rising, within the address space of R71, no word listed
that an unlisted address reads as. The form is the model's own (logs 1 and 2). -/
def Obligations.StepKeepsMemoryForm : Prop := ∀ s t : State, s.wf → step s = .next t → t.wf

/-- The reset state's memories are in canonical form. The form, and that nothing is listed at reset, are the model's own
(logs 1 and 2). -/
def Obligations.ResetMemoryForm : Prop := State.reset.wf

/-- R93: no step writes instruction memory; and none changes the fault predicates or the parameters (D2, R6). That nothing
else writes it during a run is the spec's own decision D4 (log 29). -/
def Obligations.StepNeverWritesInstructionMemory : Prop :=
  ∀ s t : State, step s = .next t →
    t.imem = s.imem ∧ t.ifaults = s.ifaults ∧ t.dfaults = s.dfaults ∧ t.params = s.params

/-- R74, R87: a word of data memory that a step changes, beside what other masters wrote at the boundary, is the one an stw
or an sc stored to: its effective address, given the register's value. That other masters write only at boundaries is the
model's reading of R267 (log 32). -/
def Obligations.DataMemoryChangesOnlyByStores : Prop :=
  ∀ (s t : State) (a : Nat), step s = .next t → t.dmem.read a ≠ s.fetched.dmem.read a →
    ∃ v b off, (s.runs (.stw v b off) ∨ (s.runs (.sc v b off) ∧ s.fetched.status.l = true)) ∧
      a = (s.fetched.dataAddress b off).toNat ∧ t.dmem.read a = s.fetched.reg v

/-- R266, R218: the machine has no halt: where both memory controllers answer and the parameters refuse nothing, every state
has a next state. The two silent buses (log 8) and the two parameters (logs 9 and 11) are the model's only stops. -/
def Obligations.EveryStepHasANextState : Prop :=
  ∀ s : State, s.busesAnswer → s.nothingRefused → ∃ t, step s = .next t

/-! ## The NVRAM coprocessor -/

/-- R238, the read procedure: with the NVRAM as coprocessor k, the two address registers written, the read operation sent,
and the device done at a later boundary with the address in bounds: the status reads `read ok` (2), the value register reads
the cell, and INT_k is high until the ack operation. What R238 leaves open is the model's choice or free (log 18). -/
def Obligations.NvramReadProcedure : Prop :=
  ∀ (d : Nvram) (lo hi v free : Word),
    ((d.writeReg 1 lo).writeReg 2 hi).execute 0 free =
      { d with addrLo := lo, addrHi := hi, pending := some .read, status := 1 } ∧
    ((hi.toNat * 2 ^ 16 + lo.toNat < d.size ∧ d.cells.read (hi.toNat * 2 ^ 16 + lo.toNat) = v) →
      ∀ e : Nvram, e = (((d.writeReg 1 lo).writeReg 2 hi).execute 0 free).advance .done →
        e.readReg 0 free = 2 ∧ e.readReg 3 free = v ∧ e.int = true ∧ e.pending = none ∧ e.cells = d.cells ∧
        (e.execute 2 free).int = false) ∧
    (d.size ≤ hi.toNat * 2 ^ 16 + lo.toNat →
      ∀ e : Nvram, e = (((d.writeReg 1 lo).writeReg 2 hi).execute 0 free).advance .done →
        e.readReg 0 free = 3 ∧ e.int = true ∧ e.cells = d.cells)

/-- R238 and C25, the write procedure: address and value registers written, the write operation sent, the device done at a
later boundary: in bounds, the status reads `write ok` (5) and the cell holds the value and every other cell what it held;
out of bounds, `write error` (6) and no cell changes; INT_k is high in both. What R238 leaves open is the model's choice or
free (log 18). -/
def Obligations.NvramWriteProcedure : Prop :=
  ∀ (d e : Nvram) (lo hi v free : Word),
    e = ((((d.writeReg 1 lo).writeReg 2 hi).writeReg 3 v).execute 1 free).advance .done →
    (((d.writeReg 1 lo).writeReg 2 hi).writeReg 3 v |>.execute 1 free).readReg 0 free = 4 ∧ e.int = true ∧
    (hi.toNat * 2 ^ 16 + lo.toNat < d.size →
      e.readReg 0 free = 5 ∧ e.cells.read (hi.toNat * 2 ^ 16 + lo.toNat) = v ∧
      ∀ a, a ≠ hi.toNat * 2 ^ 16 + lo.toNat → e.cells.read a = d.cells.read a) ∧
    (d.size ≤ hi.toNat * 2 ^ 16 + lo.toNat → e.readReg 0 free = 6 ∧ e.cells = d.cells)

/-- R48, R191, R238: with the NVRAM attached as coprocessor n, mfcp, mtcp and cpop on n (not denied) read its registers,
write them and start its operations, in any mode and for any register number; its pin is IPEND's bit n; and at a boundary it
moves as the environment has it. That the device moves only at boundaries is the model's choice (log 18). -/
def Obligations.NvramIsReachedByCoprocessorInstructions : Prop :=
  ∀ (s : State) (d : Nvram) (r : Reg) (k : BitVec 5), s.nvram = some d →
    s.pin d.number = d.int ∧
    s.fetched.nvram = some (d.advance s.sample.draws.nvram) ∧
    ((s.status.m = false ∨ numberedBit s.umcpen d.number = true) →
      (∃ t, exec (.mfcp r d.number k) s = .next t ∧ t.reg r = d.readReg k s.now.draws.cvali ∧ t.nvram = some d) ∧
      (∃ t, exec (.mtcp r d.number k) s = .next t ∧ t.nvram = some (d.writeReg k (s.reg r))) ∧
      ∃ t, exec (.cpop r d.number) s = .next t ∧
        t.nvram = some (d.execute (s.reg r) s.now.draws.openBits))
end

