-- ==== Sys2Proof/Laws/Memory.lean ====
section
/-! SUPPORT. The laws of a memory: what reads after a write, and the canonical form, which every memory operation keeps. -/

namespace Sys2Proof.Machine

theorem Memory.read_erase (m : Memory) (a b : Nat) :
    (m.erase a).read b = if b = a then unlisted else m.read b := by
  induction m with
  | nil => simp [Memory.erase, Memory.read]
  | cons c m ih =>
    by_cases h : c.1 = a <;> by_cases hb : c.1 = b <;> simp_all [Memory.erase, Memory.read]

theorem Memory.not_mem_erase (m : Memory) (a : Nat) : ∀ c ∈ m.erase a, c.1 ≠ a := by
  induction m with
  | nil => simp [Memory.erase]
  | cons c m ih =>
    unfold Memory.erase
    split
    · exact ih
    · intro d hd
      rcases List.mem_cons.1 hd with rfl | hd
      · assumption
      · exact ih d hd

theorem Memory.mem_erase (m : Memory) (a : Nat) : ∀ c ∈ m.erase a, c ∈ m := by
  induction m with
  | nil => simp [Memory.erase]
  | cons c m ih =>
    unfold Memory.erase
    split
    · exact fun d hd => List.mem_cons_of_mem _ (ih d hd)
    · intro d hd
      rcases List.mem_cons.1 hd with rfl | hd
      · exact List.mem_cons_self
      · exact List.mem_cons_of_mem _ (ih d hd)

theorem Memory.mem_insert (m : Memory) (c : Cell) : ∀ d ∈ m.insert c, d = c ∨ d ∈ m := by
  induction m with
  | nil => simp [Memory.insert]
  | cons x m ih =>
    by_cases h : c.1 < x.1 <;> simp [Memory.insert, h]
    grind

theorem Memory.read_insert (m : Memory) (c : Cell) (b : Nat) (hm : ∀ d ∈ m, d.1 ≠ c.1) :
    (m.insert c).read b = if b = c.1 then c.2 else m.read b := by
  induction m with
  | nil => simp [Memory.insert, Memory.read, eq_comm]
  | cons x m ih =>
    by_cases h : c.1 < x.1 <;> simp [Memory.insert, h, Memory.read] <;> grind

/-- What a memory reads after a write (R71, R77). -/
theorem Memory.read_write (m : Memory) (a b : Nat) (v : Word) :
    (m.write a v).read b = if b = a then v else m.read b := by
  unfold Memory.write
  split
  · simp_all [Memory.read_erase]
  · rw [Memory.read_insert _ _ _ (Memory.not_mem_erase m a)]
    simp only [Memory.read_erase]
    grind

theorem Memory.wf_nil (size : Nat) : Memory.wf size [] := by simp [Memory.wf]

theorem Memory.wf_erase {size : Nat} {m : Memory} (h : m.wf size) (a : Nat) : (m.erase a).wf size := by
  refine ⟨?_, fun c hc => h.2 c (Memory.mem_erase m a c hc)⟩
  have h1 := h.1
  clear h
  induction m with
  | nil => simp [Memory.erase]
  | cons c m ih =>
    rw [List.pairwise_cons] at h1
    unfold Memory.erase
    split
    · exact ih h1.2
    · exact List.pairwise_cons.2 ⟨fun d hd => h1.1 d (Memory.mem_erase m a d hd), ih h1.2⟩

theorem Memory.pairwise_insert (m : Memory) (c : Cell) (hm : ∀ d ∈ m, d.1 ≠ c.1)
    (h : m.Pairwise (fun c d => c.1 < d.1)) : (m.insert c).Pairwise (fun c d => c.1 < d.1) := by
  induction m with
  | nil => simp [Memory.insert]
  | cons x m ih =>
    rw [List.pairwise_cons] at h
    have hx := hm x (by simp)
    unfold Memory.insert
    split
    · refine List.pairwise_cons.2 ⟨?_, List.pairwise_cons.2 h⟩
      intro d hd
      rcases List.mem_cons.1 hd with rfl | hd
      · assumption
      · have := h.1 d hd
        omega
    · refine List.pairwise_cons.2 ⟨?_, ih (fun d hd => hm d (by simp [hd])) h.2⟩
      intro d hd
      rcases Memory.mem_insert m c d hd with rfl | hd
      · omega
      · exact h.1 d hd

/-- A write within the memory's size keeps the canonical form. -/
theorem Memory.wf_write {size : Nat} {m : Memory} (h : m.wf size) {a : Nat} (ha : a < size) (v : Word) :
    (m.write a v).wf size := by
  have he := Memory.wf_erase h a
  unfold Memory.write
  split
  · exact he
  · refine ⟨Memory.pairwise_insert _ _ (Memory.not_mem_erase m a) he.1, fun c hc => ?_⟩
    rcases Memory.mem_insert _ _ _ hc with rfl | hc
    · exact ⟨ha, by assumption⟩
    · exact he.2 c hc

/-- Several writes keep the canonical form of a word-addressed memory. -/
theorem Memory.wf_writeAll {m : Memory} (h : m.wf (2 ^ 16)) (ps : List (Word × Word)) :
    (m.writeAll ps).wf (2 ^ 16) := by
  induction ps generalizing m with
  | nil => exact h
  | cons p ps ih => exact ih (Memory.wf_write h p.1.isLt p.2)

/-- A word at none of the written addresses reads as before. -/
theorem Memory.read_writeAll_other (m : Memory) (ps : List (Word × Word)) (a : Nat)
    (h : ∀ p ∈ ps, p.1.toNat ≠ a) : (m.writeAll ps).read a = m.read a := by
  induction ps generalizing m with
  | nil => rfl
  | cons p ps ih =>
    have hp := h p (by simp)
    rw [Memory.writeAll, ih _ (fun q hq => h q (by simp [hq])), Memory.read_write, if_neg (Ne.symm hp)]

/-- The last of several writes is read back. -/
theorem Memory.writeAll_append (m : Memory) (ps qs : List (Word × Word)) :
    m.writeAll (ps ++ qs) = (m.writeAll ps).writeAll qs := by
  induction ps generalizing m with
  | nil => rfl
  | cons p ps ih => exact ih _

end Sys2Proof.Machine
end

