-- ==== Sys2Proof/Laws/State.lean ====
section
/-! SUPPORT. One lemma for each field under each update of the state, true by unfolding, so that no proof unfolds an update. -/

namespace Sys2Proof.Machine

variable (s : State)

/-! `x[r] <- v` -/

@[simp] theorem State.setReg_xu (r : Reg) (v : Word) : (s.setReg r v).xu = if s.status.m then s.xu.set r v else s.xu := rfl
@[simp] theorem State.setReg_xs (r : Reg) (v : Word) : (s.setReg r v).xs = if s.status.m then s.xs else s.xs.set r v := rfl
@[simp] theorem State.setReg_pc (r : Reg) (v : Word) : (s.setReg r v).pc = s.pc := rfl
@[simp] theorem State.setReg_epc (r : Reg) (v : Word) : (s.setReg r v).epc = s.epc := rfl
@[simp] theorem State.setReg_epcSaved (r : Reg) (v : Word) : (s.setReg r v).epcSaved = s.epcSaved := rfl
@[simp] theorem State.setReg_status (r : Reg) (v : Word) : (s.setReg r v).status = s.status := rfl
@[simp] theorem State.setReg_ifaulthdl (r : Reg) (v : Word) : (s.setReg r v).ifaulthdl = s.ifaulthdl := rfl
@[simp] theorem State.setReg_dfaulthdl (r : Reg) (v : Word) : (s.setReg r v).dfaulthdl = s.dfaulthdl := rfl
@[simp] theorem State.setReg_swihdl (r : Reg) (v : Word) : (s.setReg r v).swihdl = s.swihdl := rfl
@[simp] theorem State.setReg_illophdl (r : Reg) (v : Word) : (s.setReg r v).illophdl = s.illophdl := rfl
@[simp] theorem State.setReg_privophdl (r : Reg) (v : Word) : (s.setReg r v).privophdl = s.privophdl := rfl
@[simp] theorem State.setReg_exihdl (r : Reg) (v : Word) : (s.setReg r v).exihdl = s.exihdl := rfl
@[simp] theorem State.setReg_ienable (r : Reg) (v : Word) : (s.setReg r v).ienable = s.ienable := rfl
@[simp] theorem State.setReg_umcpen (r : Reg) (v : Word) : (s.setReg r v).umcpen = s.umcpen := rfl
@[simp] theorem State.setReg_counterLo (r : Reg) (v : Word) : (s.setReg r v).counterLo = s.counterLo := rfl
@[simp] theorem State.setReg_counterHi (r : Reg) (v : Word) : (s.setReg r v).counterHi = s.counterHi := rfl
@[simp] theorem State.setReg_imem (r : Reg) (v : Word) : (s.setReg r v).imem = s.imem := rfl
@[simp] theorem State.setReg_dmem (r : Reg) (v : Word) : (s.setReg r v).dmem = s.dmem := rfl
@[simp] theorem State.setReg_ifaults (r : Reg) (v : Word) : (s.setReg r v).ifaults = s.ifaults := rfl
@[simp] theorem State.setReg_dfaults (r : Reg) (v : Word) : (s.setReg r v).dfaults = s.dfaults := rfl
@[simp] theorem State.setReg_nvram (r : Reg) (v : Word) : (s.setReg r v).nvram = s.nvram := rfl
@[simp] theorem State.setReg_params (r : Reg) (v : Word) : (s.setReg r v).params = s.params := rfl
@[simp] theorem State.setReg_now (r : Reg) (v : Word) : (s.setReg r v).now = s.now := rfl
@[simp] theorem State.setReg_inputs (r : Reg) (v : Word) : (s.setReg r v).inputs = s.inputs := rfl
@[simp] theorem State.setReg_boundaries (r : Reg) (v : Word) : (s.setReg r v).boundaries = s.boundaries := rfl
@[simp] theorem State.setReg_events (r : Reg) (v : Word) : (s.setReg r v).events = s.events := rfl

/-! `pc <- target` -/

@[simp] theorem State.jump_xu (target : Word) : (s.jump target).xu = s.xu := rfl
@[simp] theorem State.jump_xs (target : Word) : (s.jump target).xs = s.xs := rfl
@[simp] theorem State.jump_pc (target : Word) : (s.jump target).pc = target := rfl
@[simp] theorem State.jump_epc (target : Word) : (s.jump target).epc = s.epc := rfl
@[simp] theorem State.jump_epcSaved (target : Word) : (s.jump target).epcSaved = s.epcSaved := rfl
@[simp] theorem State.jump_status (target : Word) : (s.jump target).status = s.status := rfl
@[simp] theorem State.jump_ifaulthdl (target : Word) : (s.jump target).ifaulthdl = s.ifaulthdl := rfl
@[simp] theorem State.jump_dfaulthdl (target : Word) : (s.jump target).dfaulthdl = s.dfaulthdl := rfl
@[simp] theorem State.jump_swihdl (target : Word) : (s.jump target).swihdl = s.swihdl := rfl
@[simp] theorem State.jump_illophdl (target : Word) : (s.jump target).illophdl = s.illophdl := rfl
@[simp] theorem State.jump_privophdl (target : Word) : (s.jump target).privophdl = s.privophdl := rfl
@[simp] theorem State.jump_exihdl (target : Word) : (s.jump target).exihdl = s.exihdl := rfl
@[simp] theorem State.jump_ienable (target : Word) : (s.jump target).ienable = s.ienable := rfl
@[simp] theorem State.jump_umcpen (target : Word) : (s.jump target).umcpen = s.umcpen := rfl
@[simp] theorem State.jump_counterLo (target : Word) : (s.jump target).counterLo = s.counterLo := rfl
@[simp] theorem State.jump_counterHi (target : Word) : (s.jump target).counterHi = s.counterHi := rfl
@[simp] theorem State.jump_imem (target : Word) : (s.jump target).imem = s.imem := rfl
@[simp] theorem State.jump_dmem (target : Word) : (s.jump target).dmem = s.dmem := rfl
@[simp] theorem State.jump_ifaults (target : Word) : (s.jump target).ifaults = s.ifaults := rfl
@[simp] theorem State.jump_dfaults (target : Word) : (s.jump target).dfaults = s.dfaults := rfl
@[simp] theorem State.jump_nvram (target : Word) : (s.jump target).nvram = s.nvram := rfl
@[simp] theorem State.jump_params (target : Word) : (s.jump target).params = s.params := rfl
@[simp] theorem State.jump_now (target : Word) : (s.jump target).now = s.now := rfl
@[simp] theorem State.jump_inputs (target : Word) : (s.jump target).inputs = s.inputs := rfl
@[simp] theorem State.jump_boundaries (target : Word) : (s.jump target).boundaries = s.boundaries := rfl
@[simp] theorem State.jump_events (target : Word) : (s.jump target).events = s.events := rfl

/-! `pc <- pc + 1` -/

@[simp] theorem State.advance_xu : s.advance.xu = s.xu := rfl
@[simp] theorem State.advance_xs : s.advance.xs = s.xs := rfl
@[simp] theorem State.advance_pc : s.advance.pc = nextPc s.pc := rfl
@[simp] theorem State.advance_epc : s.advance.epc = s.epc := rfl
@[simp] theorem State.advance_epcSaved : s.advance.epcSaved = s.epcSaved := rfl
@[simp] theorem State.advance_status : s.advance.status = s.status := rfl
@[simp] theorem State.advance_ifaulthdl : s.advance.ifaulthdl = s.ifaulthdl := rfl
@[simp] theorem State.advance_dfaulthdl : s.advance.dfaulthdl = s.dfaulthdl := rfl
@[simp] theorem State.advance_swihdl : s.advance.swihdl = s.swihdl := rfl
@[simp] theorem State.advance_illophdl : s.advance.illophdl = s.illophdl := rfl
@[simp] theorem State.advance_privophdl : s.advance.privophdl = s.privophdl := rfl
@[simp] theorem State.advance_exihdl : s.advance.exihdl = s.exihdl := rfl
@[simp] theorem State.advance_ienable : s.advance.ienable = s.ienable := rfl
@[simp] theorem State.advance_umcpen : s.advance.umcpen = s.umcpen := rfl
@[simp] theorem State.advance_counterLo : s.advance.counterLo = s.counterLo := rfl
@[simp] theorem State.advance_counterHi : s.advance.counterHi = s.counterHi := rfl
@[simp] theorem State.advance_imem : s.advance.imem = s.imem := rfl
@[simp] theorem State.advance_dmem : s.advance.dmem = s.dmem := rfl
@[simp] theorem State.advance_ifaults : s.advance.ifaults = s.ifaults := rfl
@[simp] theorem State.advance_dfaults : s.advance.dfaults = s.dfaults := rfl
@[simp] theorem State.advance_nvram : s.advance.nvram = s.nvram := rfl
@[simp] theorem State.advance_params : s.advance.params = s.params := rfl
@[simp] theorem State.advance_now : s.advance.now = s.now := rfl
@[simp] theorem State.advance_inputs : s.advance.inputs = s.inputs := rfl
@[simp] theorem State.advance_boundaries : s.advance.boundaries = s.boundaries := rfl
@[simp] theorem State.advance_events : s.advance.events = s.events := rfl

/-! write a register and fall through -/

@[simp] theorem State.writeNext_xu (r : Reg) (v : Word) : (s.writeNext r v).xu = if s.status.m then s.xu.set r v else s.xu := rfl
@[simp] theorem State.writeNext_xs (r : Reg) (v : Word) : (s.writeNext r v).xs = if s.status.m then s.xs else s.xs.set r v := rfl
@[simp] theorem State.writeNext_pc (r : Reg) (v : Word) : (s.writeNext r v).pc = nextPc s.pc := rfl
@[simp] theorem State.writeNext_epc (r : Reg) (v : Word) : (s.writeNext r v).epc = s.epc := rfl
@[simp] theorem State.writeNext_epcSaved (r : Reg) (v : Word) : (s.writeNext r v).epcSaved = s.epcSaved := rfl
@[simp] theorem State.writeNext_status (r : Reg) (v : Word) : (s.writeNext r v).status = s.status := rfl
@[simp] theorem State.writeNext_ifaulthdl (r : Reg) (v : Word) : (s.writeNext r v).ifaulthdl = s.ifaulthdl := rfl
@[simp] theorem State.writeNext_dfaulthdl (r : Reg) (v : Word) : (s.writeNext r v).dfaulthdl = s.dfaulthdl := rfl
@[simp] theorem State.writeNext_swihdl (r : Reg) (v : Word) : (s.writeNext r v).swihdl = s.swihdl := rfl
@[simp] theorem State.writeNext_illophdl (r : Reg) (v : Word) : (s.writeNext r v).illophdl = s.illophdl := rfl
@[simp] theorem State.writeNext_privophdl (r : Reg) (v : Word) : (s.writeNext r v).privophdl = s.privophdl := rfl
@[simp] theorem State.writeNext_exihdl (r : Reg) (v : Word) : (s.writeNext r v).exihdl = s.exihdl := rfl
@[simp] theorem State.writeNext_ienable (r : Reg) (v : Word) : (s.writeNext r v).ienable = s.ienable := rfl
@[simp] theorem State.writeNext_umcpen (r : Reg) (v : Word) : (s.writeNext r v).umcpen = s.umcpen := rfl
@[simp] theorem State.writeNext_counterLo (r : Reg) (v : Word) : (s.writeNext r v).counterLo = s.counterLo := rfl
@[simp] theorem State.writeNext_counterHi (r : Reg) (v : Word) : (s.writeNext r v).counterHi = s.counterHi := rfl
@[simp] theorem State.writeNext_imem (r : Reg) (v : Word) : (s.writeNext r v).imem = s.imem := rfl
@[simp] theorem State.writeNext_dmem (r : Reg) (v : Word) : (s.writeNext r v).dmem = s.dmem := rfl
@[simp] theorem State.writeNext_ifaults (r : Reg) (v : Word) : (s.writeNext r v).ifaults = s.ifaults := rfl
@[simp] theorem State.writeNext_dfaults (r : Reg) (v : Word) : (s.writeNext r v).dfaults = s.dfaults := rfl
@[simp] theorem State.writeNext_nvram (r : Reg) (v : Word) : (s.writeNext r v).nvram = s.nvram := rfl
@[simp] theorem State.writeNext_params (r : Reg) (v : Word) : (s.writeNext r v).params = s.params := rfl
@[simp] theorem State.writeNext_now (r : Reg) (v : Word) : (s.writeNext r v).now = s.now := rfl
@[simp] theorem State.writeNext_inputs (r : Reg) (v : Word) : (s.writeNext r v).inputs = s.inputs := rfl
@[simp] theorem State.writeNext_boundaries (r : Reg) (v : Word) : (s.writeNext r v).boundaries = s.boundaries := rfl
@[simp] theorem State.writeNext_events (r : Reg) (v : Word) : (s.writeNext r v).events = s.events := rfl

/-! `STATUS.L <- b` -/

@[simp] theorem State.setLink_xu (b : Bool) : (s.setLink b).xu = s.xu := rfl
@[simp] theorem State.setLink_xs (b : Bool) : (s.setLink b).xs = s.xs := rfl
@[simp] theorem State.setLink_pc (b : Bool) : (s.setLink b).pc = s.pc := rfl
@[simp] theorem State.setLink_epc (b : Bool) : (s.setLink b).epc = s.epc := rfl
@[simp] theorem State.setLink_epcSaved (b : Bool) : (s.setLink b).epcSaved = s.epcSaved := rfl
@[simp] theorem State.setLink_status (b : Bool) : (s.setLink b).status = { s.status with l := b } := rfl
@[simp] theorem State.setLink_ifaulthdl (b : Bool) : (s.setLink b).ifaulthdl = s.ifaulthdl := rfl
@[simp] theorem State.setLink_dfaulthdl (b : Bool) : (s.setLink b).dfaulthdl = s.dfaulthdl := rfl
@[simp] theorem State.setLink_swihdl (b : Bool) : (s.setLink b).swihdl = s.swihdl := rfl
@[simp] theorem State.setLink_illophdl (b : Bool) : (s.setLink b).illophdl = s.illophdl := rfl
@[simp] theorem State.setLink_privophdl (b : Bool) : (s.setLink b).privophdl = s.privophdl := rfl
@[simp] theorem State.setLink_exihdl (b : Bool) : (s.setLink b).exihdl = s.exihdl := rfl
@[simp] theorem State.setLink_ienable (b : Bool) : (s.setLink b).ienable = s.ienable := rfl
@[simp] theorem State.setLink_umcpen (b : Bool) : (s.setLink b).umcpen = s.umcpen := rfl
@[simp] theorem State.setLink_counterLo (b : Bool) : (s.setLink b).counterLo = s.counterLo := rfl
@[simp] theorem State.setLink_counterHi (b : Bool) : (s.setLink b).counterHi = s.counterHi := rfl
@[simp] theorem State.setLink_imem (b : Bool) : (s.setLink b).imem = s.imem := rfl
@[simp] theorem State.setLink_dmem (b : Bool) : (s.setLink b).dmem = s.dmem := rfl
@[simp] theorem State.setLink_ifaults (b : Bool) : (s.setLink b).ifaults = s.ifaults := rfl
@[simp] theorem State.setLink_dfaults (b : Bool) : (s.setLink b).dfaults = s.dfaults := rfl
@[simp] theorem State.setLink_nvram (b : Bool) : (s.setLink b).nvram = s.nvram := rfl
@[simp] theorem State.setLink_params (b : Bool) : (s.setLink b).params = s.params := rfl
@[simp] theorem State.setLink_now (b : Bool) : (s.setLink b).now = s.now := rfl
@[simp] theorem State.setLink_inputs (b : Bool) : (s.setLink b).inputs = s.inputs := rfl
@[simp] theorem State.setLink_boundaries (b : Bool) : (s.setLink b).boundaries = s.boundaries := rfl
@[simp] theorem State.setLink_events (b : Bool) : (s.setLink b).events = s.events := rfl

/-! `STATUS.A <- a` -/

@[simp] theorem State.setArgument_xu (a : BitVec 11) : (s.setArgument a).xu = s.xu := rfl
@[simp] theorem State.setArgument_xs (a : BitVec 11) : (s.setArgument a).xs = s.xs := rfl
@[simp] theorem State.setArgument_pc (a : BitVec 11) : (s.setArgument a).pc = s.pc := rfl
@[simp] theorem State.setArgument_epc (a : BitVec 11) : (s.setArgument a).epc = s.epc := rfl
@[simp] theorem State.setArgument_epcSaved (a : BitVec 11) : (s.setArgument a).epcSaved = s.epcSaved := rfl
@[simp] theorem State.setArgument_status (a : BitVec 11) : (s.setArgument a).status = { s.status with a := a } := rfl
@[simp] theorem State.setArgument_ifaulthdl (a : BitVec 11) : (s.setArgument a).ifaulthdl = s.ifaulthdl := rfl
@[simp] theorem State.setArgument_dfaulthdl (a : BitVec 11) : (s.setArgument a).dfaulthdl = s.dfaulthdl := rfl
@[simp] theorem State.setArgument_swihdl (a : BitVec 11) : (s.setArgument a).swihdl = s.swihdl := rfl
@[simp] theorem State.setArgument_illophdl (a : BitVec 11) : (s.setArgument a).illophdl = s.illophdl := rfl
@[simp] theorem State.setArgument_privophdl (a : BitVec 11) : (s.setArgument a).privophdl = s.privophdl := rfl
@[simp] theorem State.setArgument_exihdl (a : BitVec 11) : (s.setArgument a).exihdl = s.exihdl := rfl
@[simp] theorem State.setArgument_ienable (a : BitVec 11) : (s.setArgument a).ienable = s.ienable := rfl
@[simp] theorem State.setArgument_umcpen (a : BitVec 11) : (s.setArgument a).umcpen = s.umcpen := rfl
@[simp] theorem State.setArgument_counterLo (a : BitVec 11) : (s.setArgument a).counterLo = s.counterLo := rfl
@[simp] theorem State.setArgument_counterHi (a : BitVec 11) : (s.setArgument a).counterHi = s.counterHi := rfl
@[simp] theorem State.setArgument_imem (a : BitVec 11) : (s.setArgument a).imem = s.imem := rfl
@[simp] theorem State.setArgument_dmem (a : BitVec 11) : (s.setArgument a).dmem = s.dmem := rfl
@[simp] theorem State.setArgument_ifaults (a : BitVec 11) : (s.setArgument a).ifaults = s.ifaults := rfl
@[simp] theorem State.setArgument_dfaults (a : BitVec 11) : (s.setArgument a).dfaults = s.dfaults := rfl
@[simp] theorem State.setArgument_nvram (a : BitVec 11) : (s.setArgument a).nvram = s.nvram := rfl
@[simp] theorem State.setArgument_params (a : BitVec 11) : (s.setArgument a).params = s.params := rfl
@[simp] theorem State.setArgument_now (a : BitVec 11) : (s.setArgument a).now = s.now := rfl
@[simp] theorem State.setArgument_inputs (a : BitVec 11) : (s.setArgument a).inputs = s.inputs := rfl
@[simp] theorem State.setArgument_boundaries (a : BitVec 11) : (s.setArgument a).boundaries = s.boundaries := rfl
@[simp] theorem State.setArgument_events (a : BitVec 11) : (s.setArgument a).events = s.events := rfl

/-! an output event -/

@[simp] theorem State.emit_xu (e : Event) : (s.emit e).xu = s.xu := rfl
@[simp] theorem State.emit_xs (e : Event) : (s.emit e).xs = s.xs := rfl
@[simp] theorem State.emit_pc (e : Event) : (s.emit e).pc = s.pc := rfl
@[simp] theorem State.emit_epc (e : Event) : (s.emit e).epc = s.epc := rfl
@[simp] theorem State.emit_epcSaved (e : Event) : (s.emit e).epcSaved = s.epcSaved := rfl
@[simp] theorem State.emit_status (e : Event) : (s.emit e).status = s.status := rfl
@[simp] theorem State.emit_ifaulthdl (e : Event) : (s.emit e).ifaulthdl = s.ifaulthdl := rfl
@[simp] theorem State.emit_dfaulthdl (e : Event) : (s.emit e).dfaulthdl = s.dfaulthdl := rfl
@[simp] theorem State.emit_swihdl (e : Event) : (s.emit e).swihdl = s.swihdl := rfl
@[simp] theorem State.emit_illophdl (e : Event) : (s.emit e).illophdl = s.illophdl := rfl
@[simp] theorem State.emit_privophdl (e : Event) : (s.emit e).privophdl = s.privophdl := rfl
@[simp] theorem State.emit_exihdl (e : Event) : (s.emit e).exihdl = s.exihdl := rfl
@[simp] theorem State.emit_ienable (e : Event) : (s.emit e).ienable = s.ienable := rfl
@[simp] theorem State.emit_umcpen (e : Event) : (s.emit e).umcpen = s.umcpen := rfl
@[simp] theorem State.emit_counterLo (e : Event) : (s.emit e).counterLo = s.counterLo := rfl
@[simp] theorem State.emit_counterHi (e : Event) : (s.emit e).counterHi = s.counterHi := rfl
@[simp] theorem State.emit_imem (e : Event) : (s.emit e).imem = s.imem := rfl
@[simp] theorem State.emit_dmem (e : Event) : (s.emit e).dmem = s.dmem := rfl
@[simp] theorem State.emit_ifaults (e : Event) : (s.emit e).ifaults = s.ifaults := rfl
@[simp] theorem State.emit_dfaults (e : Event) : (s.emit e).dfaults = s.dfaults := rfl
@[simp] theorem State.emit_nvram (e : Event) : (s.emit e).nvram = s.nvram := rfl
@[simp] theorem State.emit_params (e : Event) : (s.emit e).params = s.params := rfl
@[simp] theorem State.emit_now (e : Event) : (s.emit e).now = s.now := rfl
@[simp] theorem State.emit_inputs (e : Event) : (s.emit e).inputs = s.inputs := rfl
@[simp] theorem State.emit_boundaries (e : Event) : (s.emit e).boundaries = s.boundaries := rfl
@[simp] theorem State.emit_events (e : Event) : (s.emit e).events = e :: s.events := rfl

/-! link and jump -/

@[simp] theorem State.linkAndJump_xu (target : Word) : (s.linkAndJump target).xu = if s.status.m then s.xu.set .r7 (nextPc s.pc) else s.xu := rfl
@[simp] theorem State.linkAndJump_xs (target : Word) : (s.linkAndJump target).xs = if s.status.m then s.xs else s.xs.set .r7 (nextPc s.pc) := rfl
@[simp] theorem State.linkAndJump_pc (target : Word) : (s.linkAndJump target).pc = target := rfl
@[simp] theorem State.linkAndJump_epc (target : Word) : (s.linkAndJump target).epc = s.epc := rfl
@[simp] theorem State.linkAndJump_epcSaved (target : Word) : (s.linkAndJump target).epcSaved = s.epcSaved := rfl
@[simp] theorem State.linkAndJump_status (target : Word) : (s.linkAndJump target).status = s.status := rfl
@[simp] theorem State.linkAndJump_ifaulthdl (target : Word) : (s.linkAndJump target).ifaulthdl = s.ifaulthdl := rfl
@[simp] theorem State.linkAndJump_dfaulthdl (target : Word) : (s.linkAndJump target).dfaulthdl = s.dfaulthdl := rfl
@[simp] theorem State.linkAndJump_swihdl (target : Word) : (s.linkAndJump target).swihdl = s.swihdl := rfl
@[simp] theorem State.linkAndJump_illophdl (target : Word) : (s.linkAndJump target).illophdl = s.illophdl := rfl
@[simp] theorem State.linkAndJump_privophdl (target : Word) : (s.linkAndJump target).privophdl = s.privophdl := rfl
@[simp] theorem State.linkAndJump_exihdl (target : Word) : (s.linkAndJump target).exihdl = s.exihdl := rfl
@[simp] theorem State.linkAndJump_ienable (target : Word) : (s.linkAndJump target).ienable = s.ienable := rfl
@[simp] theorem State.linkAndJump_umcpen (target : Word) : (s.linkAndJump target).umcpen = s.umcpen := rfl
@[simp] theorem State.linkAndJump_counterLo (target : Word) : (s.linkAndJump target).counterLo = s.counterLo := rfl
@[simp] theorem State.linkAndJump_counterHi (target : Word) : (s.linkAndJump target).counterHi = s.counterHi := rfl
@[simp] theorem State.linkAndJump_imem (target : Word) : (s.linkAndJump target).imem = s.imem := rfl
@[simp] theorem State.linkAndJump_dmem (target : Word) : (s.linkAndJump target).dmem = s.dmem := rfl
@[simp] theorem State.linkAndJump_ifaults (target : Word) : (s.linkAndJump target).ifaults = s.ifaults := rfl
@[simp] theorem State.linkAndJump_dfaults (target : Word) : (s.linkAndJump target).dfaults = s.dfaults := rfl
@[simp] theorem State.linkAndJump_nvram (target : Word) : (s.linkAndJump target).nvram = s.nvram := rfl
@[simp] theorem State.linkAndJump_params (target : Word) : (s.linkAndJump target).params = s.params := rfl
@[simp] theorem State.linkAndJump_now (target : Word) : (s.linkAndJump target).now = s.now := rfl
@[simp] theorem State.linkAndJump_inputs (target : Word) : (s.linkAndJump target).inputs = s.inputs := rfl
@[simp] theorem State.linkAndJump_boundaries (target : Word) : (s.linkAndJump target).boundaries = s.boundaries := rfl
@[simp] theorem State.linkAndJump_events (target : Word) : (s.linkAndJump target).events = s.events := rfl

/-! the trap entry of R215 -/

@[simp] theorem State.trapEntry_xu (epc vector : Word) : (s.trapEntry epc vector).xu = s.xu := rfl
@[simp] theorem State.trapEntry_xs (epc vector : Word) : (s.trapEntry epc vector).xs = s.xs := rfl
@[simp] theorem State.trapEntry_pc (epc vector : Word) : (s.trapEntry epc vector).pc = vector := rfl
@[simp] theorem State.trapEntry_epc (epc vector : Word) : (s.trapEntry epc vector).epc = epc := rfl
@[simp] theorem State.trapEntry_epcSaved (epc vector : Word) : (s.trapEntry epc vector).epcSaved = s.epc := rfl
@[simp] theorem State.trapEntry_status (epc vector : Word) : (s.trapEntry epc vector).status = { s.status with s := s.status.u, u := s.status.m, m := false, e := false } := rfl
@[simp] theorem State.trapEntry_ifaulthdl (epc vector : Word) : (s.trapEntry epc vector).ifaulthdl = s.ifaulthdl := rfl
@[simp] theorem State.trapEntry_dfaulthdl (epc vector : Word) : (s.trapEntry epc vector).dfaulthdl = s.dfaulthdl := rfl
@[simp] theorem State.trapEntry_swihdl (epc vector : Word) : (s.trapEntry epc vector).swihdl = s.swihdl := rfl
@[simp] theorem State.trapEntry_illophdl (epc vector : Word) : (s.trapEntry epc vector).illophdl = s.illophdl := rfl
@[simp] theorem State.trapEntry_privophdl (epc vector : Word) : (s.trapEntry epc vector).privophdl = s.privophdl := rfl
@[simp] theorem State.trapEntry_exihdl (epc vector : Word) : (s.trapEntry epc vector).exihdl = s.exihdl := rfl
@[simp] theorem State.trapEntry_ienable (epc vector : Word) : (s.trapEntry epc vector).ienable = s.ienable := rfl
@[simp] theorem State.trapEntry_umcpen (epc vector : Word) : (s.trapEntry epc vector).umcpen = s.umcpen := rfl
@[simp] theorem State.trapEntry_counterLo (epc vector : Word) : (s.trapEntry epc vector).counterLo = s.counterLo := rfl
@[simp] theorem State.trapEntry_counterHi (epc vector : Word) : (s.trapEntry epc vector).counterHi = s.counterHi := rfl
@[simp] theorem State.trapEntry_imem (epc vector : Word) : (s.trapEntry epc vector).imem = s.imem := rfl
@[simp] theorem State.trapEntry_dmem (epc vector : Word) : (s.trapEntry epc vector).dmem = s.dmem := rfl
@[simp] theorem State.trapEntry_ifaults (epc vector : Word) : (s.trapEntry epc vector).ifaults = s.ifaults := rfl
@[simp] theorem State.trapEntry_dfaults (epc vector : Word) : (s.trapEntry epc vector).dfaults = s.dfaults := rfl
@[simp] theorem State.trapEntry_nvram (epc vector : Word) : (s.trapEntry epc vector).nvram = s.nvram := rfl
@[simp] theorem State.trapEntry_params (epc vector : Word) : (s.trapEntry epc vector).params = s.params := rfl
@[simp] theorem State.trapEntry_now (epc vector : Word) : (s.trapEntry epc vector).now = s.now := rfl
@[simp] theorem State.trapEntry_inputs (epc vector : Word) : (s.trapEntry epc vector).inputs = s.inputs := rfl
@[simp] theorem State.trapEntry_boundaries (epc vector : Word) : (s.trapEntry epc vector).boundaries = s.boundaries := rfl
@[simp] theorem State.trapEntry_events (epc vector : Word) : (s.trapEntry epc vector).events = s.events := rfl

/-! a trap of a cause -/

@[simp] theorem State.raise_xu (c : Cause) : (s.raise c).xu = s.xu := rfl
@[simp] theorem State.raise_xs (c : Cause) : (s.raise c).xs = s.xs := rfl
@[simp] theorem State.raise_pc (c : Cause) : (s.raise c).pc = s.handler c := rfl
@[simp] theorem State.raise_epc (c : Cause) : (s.raise c).epc = s.resumeAddress c := rfl
@[simp] theorem State.raise_epcSaved (c : Cause) : (s.raise c).epcSaved = s.epc := rfl
@[simp] theorem State.raise_status (c : Cause) : (s.raise c).status = { m := false, e := false, u := s.status.m, l := s.status.l, s := s.status.u, a := s.trapArgument c } := rfl
@[simp] theorem State.raise_ifaulthdl (c : Cause) : (s.raise c).ifaulthdl = s.ifaulthdl := rfl
@[simp] theorem State.raise_dfaulthdl (c : Cause) : (s.raise c).dfaulthdl = s.dfaulthdl := rfl
@[simp] theorem State.raise_swihdl (c : Cause) : (s.raise c).swihdl = s.swihdl := rfl
@[simp] theorem State.raise_illophdl (c : Cause) : (s.raise c).illophdl = s.illophdl := rfl
@[simp] theorem State.raise_privophdl (c : Cause) : (s.raise c).privophdl = s.privophdl := rfl
@[simp] theorem State.raise_exihdl (c : Cause) : (s.raise c).exihdl = s.exihdl := rfl
@[simp] theorem State.raise_ienable (c : Cause) : (s.raise c).ienable = s.ienable := rfl
@[simp] theorem State.raise_umcpen (c : Cause) : (s.raise c).umcpen = s.umcpen := rfl
@[simp] theorem State.raise_counterLo (c : Cause) : (s.raise c).counterLo = s.counterLo := rfl
@[simp] theorem State.raise_counterHi (c : Cause) : (s.raise c).counterHi = s.counterHi := rfl
@[simp] theorem State.raise_imem (c : Cause) : (s.raise c).imem = s.imem := rfl
@[simp] theorem State.raise_dmem (c : Cause) : (s.raise c).dmem = s.dmem := rfl
@[simp] theorem State.raise_ifaults (c : Cause) : (s.raise c).ifaults = s.ifaults := rfl
@[simp] theorem State.raise_dfaults (c : Cause) : (s.raise c).dfaults = s.dfaults := rfl
@[simp] theorem State.raise_nvram (c : Cause) : (s.raise c).nvram = s.nvram := rfl
@[simp] theorem State.raise_params (c : Cause) : (s.raise c).params = s.params := rfl
@[simp] theorem State.raise_now (c : Cause) : (s.raise c).now = s.now := rfl
@[simp] theorem State.raise_inputs (c : Cause) : (s.raise c).inputs = s.inputs := rfl
@[simp] theorem State.raise_boundaries (c : Cause) : (s.raise c).boundaries = s.boundaries := rfl
@[simp] theorem State.raise_events (c : Cause) : (s.raise c).events = s.events := rfl

/-! the return of R196 -/

@[simp] theorem State.returnFromTrap_xu : s.returnFromTrap.xu = s.xu := rfl
@[simp] theorem State.returnFromTrap_xs : s.returnFromTrap.xs = s.xs := rfl
@[simp] theorem State.returnFromTrap_pc : s.returnFromTrap.pc = s.epc := rfl
@[simp] theorem State.returnFromTrap_epc : s.returnFromTrap.epc = s.epcSaved := rfl
@[simp] theorem State.returnFromTrap_epcSaved : s.returnFromTrap.epcSaved = s.epcSaved := rfl
@[simp] theorem State.returnFromTrap_status : s.returnFromTrap.status = { s.status with m := s.status.u, u := s.status.s, e := true } := rfl
@[simp] theorem State.returnFromTrap_ifaulthdl : s.returnFromTrap.ifaulthdl = s.ifaulthdl := rfl
@[simp] theorem State.returnFromTrap_dfaulthdl : s.returnFromTrap.dfaulthdl = s.dfaulthdl := rfl
@[simp] theorem State.returnFromTrap_swihdl : s.returnFromTrap.swihdl = s.swihdl := rfl
@[simp] theorem State.returnFromTrap_illophdl : s.returnFromTrap.illophdl = s.illophdl := rfl
@[simp] theorem State.returnFromTrap_privophdl : s.returnFromTrap.privophdl = s.privophdl := rfl
@[simp] theorem State.returnFromTrap_exihdl : s.returnFromTrap.exihdl = s.exihdl := rfl
@[simp] theorem State.returnFromTrap_ienable : s.returnFromTrap.ienable = s.ienable := rfl
@[simp] theorem State.returnFromTrap_umcpen : s.returnFromTrap.umcpen = s.umcpen := rfl
@[simp] theorem State.returnFromTrap_counterLo : s.returnFromTrap.counterLo = s.counterLo := rfl
@[simp] theorem State.returnFromTrap_counterHi : s.returnFromTrap.counterHi = s.counterHi := rfl
@[simp] theorem State.returnFromTrap_imem : s.returnFromTrap.imem = s.imem := rfl
@[simp] theorem State.returnFromTrap_dmem : s.returnFromTrap.dmem = s.dmem := rfl
@[simp] theorem State.returnFromTrap_ifaults : s.returnFromTrap.ifaults = s.ifaults := rfl
@[simp] theorem State.returnFromTrap_dfaults : s.returnFromTrap.dfaults = s.dfaults := rfl
@[simp] theorem State.returnFromTrap_nvram : s.returnFromTrap.nvram = s.nvram := rfl
@[simp] theorem State.returnFromTrap_params : s.returnFromTrap.params = s.params := rfl
@[simp] theorem State.returnFromTrap_now : s.returnFromTrap.now = s.now := rfl
@[simp] theorem State.returnFromTrap_inputs : s.returnFromTrap.inputs = s.inputs := rfl
@[simp] theorem State.returnFromTrap_boundaries : s.returnFromTrap.boundaries = s.boundaries := rfl
@[simp] theorem State.returnFromTrap_events : s.returnFromTrap.events = s.events := rfl

/-! a data write -/

@[simp] theorem State.storeWord_xu (a v : Word) : (s.storeWord a v).xu = s.xu := rfl
@[simp] theorem State.storeWord_xs (a v : Word) : (s.storeWord a v).xs = s.xs := rfl
@[simp] theorem State.storeWord_pc (a v : Word) : (s.storeWord a v).pc = s.pc := rfl
@[simp] theorem State.storeWord_epc (a v : Word) : (s.storeWord a v).epc = s.epc := rfl
@[simp] theorem State.storeWord_epcSaved (a v : Word) : (s.storeWord a v).epcSaved = s.epcSaved := rfl
@[simp] theorem State.storeWord_status (a v : Word) : (s.storeWord a v).status = s.status := rfl
@[simp] theorem State.storeWord_ifaulthdl (a v : Word) : (s.storeWord a v).ifaulthdl = s.ifaulthdl := rfl
@[simp] theorem State.storeWord_dfaulthdl (a v : Word) : (s.storeWord a v).dfaulthdl = s.dfaulthdl := rfl
@[simp] theorem State.storeWord_swihdl (a v : Word) : (s.storeWord a v).swihdl = s.swihdl := rfl
@[simp] theorem State.storeWord_illophdl (a v : Word) : (s.storeWord a v).illophdl = s.illophdl := rfl
@[simp] theorem State.storeWord_privophdl (a v : Word) : (s.storeWord a v).privophdl = s.privophdl := rfl
@[simp] theorem State.storeWord_exihdl (a v : Word) : (s.storeWord a v).exihdl = s.exihdl := rfl
@[simp] theorem State.storeWord_ienable (a v : Word) : (s.storeWord a v).ienable = s.ienable := rfl
@[simp] theorem State.storeWord_umcpen (a v : Word) : (s.storeWord a v).umcpen = s.umcpen := rfl
@[simp] theorem State.storeWord_counterLo (a v : Word) : (s.storeWord a v).counterLo = s.counterLo := rfl
@[simp] theorem State.storeWord_counterHi (a v : Word) : (s.storeWord a v).counterHi = s.counterHi := rfl
@[simp] theorem State.storeWord_imem (a v : Word) : (s.storeWord a v).imem = s.imem := rfl
@[simp] theorem State.storeWord_dmem (a v : Word) : (s.storeWord a v).dmem = s.dmem.write a.toNat v := rfl
@[simp] theorem State.storeWord_ifaults (a v : Word) : (s.storeWord a v).ifaults = s.ifaults := rfl
@[simp] theorem State.storeWord_dfaults (a v : Word) : (s.storeWord a v).dfaults = s.dfaults := rfl
@[simp] theorem State.storeWord_nvram (a v : Word) : (s.storeWord a v).nvram = s.nvram := rfl
@[simp] theorem State.storeWord_params (a v : Word) : (s.storeWord a v).params = s.params := rfl
@[simp] theorem State.storeWord_now (a v : Word) : (s.storeWord a v).now = s.now := rfl
@[simp] theorem State.storeWord_inputs (a v : Word) : (s.storeWord a v).inputs = s.inputs := rfl
@[simp] theorem State.storeWord_boundaries (a v : Word) : (s.storeWord a v).boundaries = s.boundaries := rfl
@[simp] theorem State.storeWord_events (a v : Word) : (s.storeWord a v).events = s.events := rfl

/-! a coprocessor write -/

@[simp] theorem State.cpWrite_xu (n : CpNum) (r : BitVec 5) (v : Word) : (s.cpWrite n r v).xu = s.xu := rfl
@[simp] theorem State.cpWrite_xs (n : CpNum) (r : BitVec 5) (v : Word) : (s.cpWrite n r v).xs = s.xs := rfl
@[simp] theorem State.cpWrite_pc (n : CpNum) (r : BitVec 5) (v : Word) : (s.cpWrite n r v).pc = s.pc := rfl
@[simp] theorem State.cpWrite_epc (n : CpNum) (r : BitVec 5) (v : Word) : (s.cpWrite n r v).epc = s.epc := rfl
@[simp] theorem State.cpWrite_epcSaved (n : CpNum) (r : BitVec 5) (v : Word) : (s.cpWrite n r v).epcSaved = s.epcSaved := rfl
@[simp] theorem State.cpWrite_status (n : CpNum) (r : BitVec 5) (v : Word) : (s.cpWrite n r v).status = s.status := rfl
@[simp] theorem State.cpWrite_ifaulthdl (n : CpNum) (r : BitVec 5) (v : Word) : (s.cpWrite n r v).ifaulthdl = s.ifaulthdl := rfl
@[simp] theorem State.cpWrite_dfaulthdl (n : CpNum) (r : BitVec 5) (v : Word) : (s.cpWrite n r v).dfaulthdl = s.dfaulthdl := rfl
@[simp] theorem State.cpWrite_swihdl (n : CpNum) (r : BitVec 5) (v : Word) : (s.cpWrite n r v).swihdl = s.swihdl := rfl
@[simp] theorem State.cpWrite_illophdl (n : CpNum) (r : BitVec 5) (v : Word) : (s.cpWrite n r v).illophdl = s.illophdl := rfl
@[simp] theorem State.cpWrite_privophdl (n : CpNum) (r : BitVec 5) (v : Word) : (s.cpWrite n r v).privophdl = s.privophdl := rfl
@[simp] theorem State.cpWrite_exihdl (n : CpNum) (r : BitVec 5) (v : Word) : (s.cpWrite n r v).exihdl = s.exihdl := rfl
@[simp] theorem State.cpWrite_ienable (n : CpNum) (r : BitVec 5) (v : Word) : (s.cpWrite n r v).ienable = s.ienable := rfl
@[simp] theorem State.cpWrite_umcpen (n : CpNum) (r : BitVec 5) (v : Word) : (s.cpWrite n r v).umcpen = s.umcpen := rfl
@[simp] theorem State.cpWrite_counterLo (n : CpNum) (r : BitVec 5) (v : Word) : (s.cpWrite n r v).counterLo = s.counterLo := rfl
@[simp] theorem State.cpWrite_counterHi (n : CpNum) (r : BitVec 5) (v : Word) : (s.cpWrite n r v).counterHi = s.counterHi := rfl
@[simp] theorem State.cpWrite_imem (n : CpNum) (r : BitVec 5) (v : Word) : (s.cpWrite n r v).imem = s.imem := rfl
@[simp] theorem State.cpWrite_dmem (n : CpNum) (r : BitVec 5) (v : Word) : (s.cpWrite n r v).dmem = s.dmem := rfl
@[simp] theorem State.cpWrite_ifaults (n : CpNum) (r : BitVec 5) (v : Word) : (s.cpWrite n r v).ifaults = s.ifaults := rfl
@[simp] theorem State.cpWrite_dfaults (n : CpNum) (r : BitVec 5) (v : Word) : (s.cpWrite n r v).dfaults = s.dfaults := rfl
@[simp] theorem State.cpWrite_nvram (n : CpNum) (r : BitVec 5) (v : Word) : (s.cpWrite n r v).nvram = s.nvram.map (Nvram.select n (Nvram.writeReg r v)) := rfl
@[simp] theorem State.cpWrite_params (n : CpNum) (r : BitVec 5) (v : Word) : (s.cpWrite n r v).params = s.params := rfl
@[simp] theorem State.cpWrite_now (n : CpNum) (r : BitVec 5) (v : Word) : (s.cpWrite n r v).now = s.now := rfl
@[simp] theorem State.cpWrite_inputs (n : CpNum) (r : BitVec 5) (v : Word) : (s.cpWrite n r v).inputs = s.inputs := rfl
@[simp] theorem State.cpWrite_boundaries (n : CpNum) (r : BitVec 5) (v : Word) : (s.cpWrite n r v).boundaries = s.boundaries := rfl
@[simp] theorem State.cpWrite_events (n : CpNum) (r : BitVec 5) (v : Word) : (s.cpWrite n r v).events = .cpWrite n r v :: s.events := rfl

/-! a coprocessor execute -/

@[simp] theorem State.cpExec_xu (n : CpNum) (v : Word) : (s.cpExec n v).xu = s.xu := rfl
@[simp] theorem State.cpExec_xs (n : CpNum) (v : Word) : (s.cpExec n v).xs = s.xs := rfl
@[simp] theorem State.cpExec_pc (n : CpNum) (v : Word) : (s.cpExec n v).pc = s.pc := rfl
@[simp] theorem State.cpExec_epc (n : CpNum) (v : Word) : (s.cpExec n v).epc = s.epc := rfl
@[simp] theorem State.cpExec_epcSaved (n : CpNum) (v : Word) : (s.cpExec n v).epcSaved = s.epcSaved := rfl
@[simp] theorem State.cpExec_status (n : CpNum) (v : Word) : (s.cpExec n v).status = s.status := rfl
@[simp] theorem State.cpExec_ifaulthdl (n : CpNum) (v : Word) : (s.cpExec n v).ifaulthdl = s.ifaulthdl := rfl
@[simp] theorem State.cpExec_dfaulthdl (n : CpNum) (v : Word) : (s.cpExec n v).dfaulthdl = s.dfaulthdl := rfl
@[simp] theorem State.cpExec_swihdl (n : CpNum) (v : Word) : (s.cpExec n v).swihdl = s.swihdl := rfl
@[simp] theorem State.cpExec_illophdl (n : CpNum) (v : Word) : (s.cpExec n v).illophdl = s.illophdl := rfl
@[simp] theorem State.cpExec_privophdl (n : CpNum) (v : Word) : (s.cpExec n v).privophdl = s.privophdl := rfl
@[simp] theorem State.cpExec_exihdl (n : CpNum) (v : Word) : (s.cpExec n v).exihdl = s.exihdl := rfl
@[simp] theorem State.cpExec_ienable (n : CpNum) (v : Word) : (s.cpExec n v).ienable = s.ienable := rfl
@[simp] theorem State.cpExec_umcpen (n : CpNum) (v : Word) : (s.cpExec n v).umcpen = s.umcpen := rfl
@[simp] theorem State.cpExec_counterLo (n : CpNum) (v : Word) : (s.cpExec n v).counterLo = s.counterLo := rfl
@[simp] theorem State.cpExec_counterHi (n : CpNum) (v : Word) : (s.cpExec n v).counterHi = s.counterHi := rfl
@[simp] theorem State.cpExec_imem (n : CpNum) (v : Word) : (s.cpExec n v).imem = s.imem := rfl
@[simp] theorem State.cpExec_dmem (n : CpNum) (v : Word) : (s.cpExec n v).dmem = s.dmem := rfl
@[simp] theorem State.cpExec_ifaults (n : CpNum) (v : Word) : (s.cpExec n v).ifaults = s.ifaults := rfl
@[simp] theorem State.cpExec_dfaults (n : CpNum) (v : Word) : (s.cpExec n v).dfaults = s.dfaults := rfl
@[simp] theorem State.cpExec_nvram (n : CpNum) (v : Word) : (s.cpExec n v).nvram = s.nvram.map (Nvram.select n (Nvram.execute v s.now.draws.openBits)) := rfl
@[simp] theorem State.cpExec_params (n : CpNum) (v : Word) : (s.cpExec n v).params = s.params := rfl
@[simp] theorem State.cpExec_now (n : CpNum) (v : Word) : (s.cpExec n v).now = s.now := rfl
@[simp] theorem State.cpExec_inputs (n : CpNum) (v : Word) : (s.cpExec n v).inputs = s.inputs := rfl
@[simp] theorem State.cpExec_boundaries (n : CpNum) (v : Word) : (s.cpExec n v).boundaries = s.boundaries := rfl
@[simp] theorem State.cpExec_events (n : CpNum) (v : Word) : (s.cpExec n v).events = .cpExec n v :: s.events := rfl

/-! the boundary -/

@[simp] theorem State.atBoundary_xu : s.atBoundary.xu = s.xu := rfl
@[simp] theorem State.atBoundary_xs : s.atBoundary.xs = s.xs := rfl
@[simp] theorem State.atBoundary_pc : s.atBoundary.pc = s.pc := rfl
@[simp] theorem State.atBoundary_epc : s.atBoundary.epc = s.epc := rfl
@[simp] theorem State.atBoundary_epcSaved : s.atBoundary.epcSaved = s.epcSaved := rfl
@[simp] theorem State.atBoundary_status : s.atBoundary.status = { s.status with l := s.status.l && !s.sample.draws.llinval } := rfl
@[simp] theorem State.atBoundary_ifaulthdl : s.atBoundary.ifaulthdl = s.ifaulthdl := rfl
@[simp] theorem State.atBoundary_dfaulthdl : s.atBoundary.dfaulthdl = s.dfaulthdl := rfl
@[simp] theorem State.atBoundary_swihdl : s.atBoundary.swihdl = s.swihdl := rfl
@[simp] theorem State.atBoundary_illophdl : s.atBoundary.illophdl = s.illophdl := rfl
@[simp] theorem State.atBoundary_privophdl : s.atBoundary.privophdl = s.privophdl := rfl
@[simp] theorem State.atBoundary_exihdl : s.atBoundary.exihdl = s.exihdl := rfl
@[simp] theorem State.atBoundary_ienable : s.atBoundary.ienable = s.ienable := rfl
@[simp] theorem State.atBoundary_umcpen : s.atBoundary.umcpen = s.umcpen := rfl
@[simp] theorem State.atBoundary_counterLo : s.atBoundary.counterLo = s.sample.draws.counter.extractLsb' 0 16 := rfl
@[simp] theorem State.atBoundary_counterHi : s.atBoundary.counterHi = s.sample.draws.counter.extractLsb' 16 16 := rfl
@[simp] theorem State.atBoundary_imem : s.atBoundary.imem = s.imem := rfl
@[simp] theorem State.atBoundary_dmem : s.atBoundary.dmem = s.dmem.writeAll s.sample.busWrites := rfl
@[simp] theorem State.atBoundary_ifaults : s.atBoundary.ifaults = s.ifaults := rfl
@[simp] theorem State.atBoundary_dfaults : s.atBoundary.dfaults = s.dfaults := rfl
@[simp] theorem State.atBoundary_nvram : s.atBoundary.nvram = s.nvram.map (Nvram.advance s.sample.draws.nvram) := rfl
@[simp] theorem State.atBoundary_params : s.atBoundary.params = s.params := rfl
@[simp] theorem State.atBoundary_now : s.atBoundary.now = s.sample := rfl
@[simp] theorem State.atBoundary_inputs : s.atBoundary.inputs = s.inputs.tail := rfl
@[simp] theorem State.atBoundary_boundaries : s.atBoundary.boundaries = s.boundaries + 1 := rfl
@[simp] theorem State.atBoundary_events : s.atBoundary.events = s.events := rfl

/-! the boundary and the fetch -/

@[simp] theorem State.fetched_xu : s.fetched.xu = s.xu := rfl
@[simp] theorem State.fetched_xs : s.fetched.xs = s.xs := rfl
@[simp] theorem State.fetched_pc : s.fetched.pc = s.pc := rfl
@[simp] theorem State.fetched_epc : s.fetched.epc = s.epc := rfl
@[simp] theorem State.fetched_epcSaved : s.fetched.epcSaved = s.epcSaved := rfl
@[simp] theorem State.fetched_status : s.fetched.status = { s.status with l := s.status.l && !s.sample.draws.llinval } := rfl
@[simp] theorem State.fetched_ifaulthdl : s.fetched.ifaulthdl = s.ifaulthdl := rfl
@[simp] theorem State.fetched_dfaulthdl : s.fetched.dfaulthdl = s.dfaulthdl := rfl
@[simp] theorem State.fetched_swihdl : s.fetched.swihdl = s.swihdl := rfl
@[simp] theorem State.fetched_illophdl : s.fetched.illophdl = s.illophdl := rfl
@[simp] theorem State.fetched_privophdl : s.fetched.privophdl = s.privophdl := rfl
@[simp] theorem State.fetched_exihdl : s.fetched.exihdl = s.exihdl := rfl
@[simp] theorem State.fetched_ienable : s.fetched.ienable = s.ienable := rfl
@[simp] theorem State.fetched_umcpen : s.fetched.umcpen = s.umcpen := rfl
@[simp] theorem State.fetched_counterLo : s.fetched.counterLo = s.sample.draws.counter.extractLsb' 0 16 := rfl
@[simp] theorem State.fetched_counterHi : s.fetched.counterHi = s.sample.draws.counter.extractLsb' 16 16 := rfl
@[simp] theorem State.fetched_imem : s.fetched.imem = s.imem := rfl
@[simp] theorem State.fetched_dmem : s.fetched.dmem = s.dmem.writeAll s.sample.busWrites := rfl
@[simp] theorem State.fetched_ifaults : s.fetched.ifaults = s.ifaults := rfl
@[simp] theorem State.fetched_dfaults : s.fetched.dfaults = s.dfaults := rfl
@[simp] theorem State.fetched_nvram : s.fetched.nvram = s.nvram.map (Nvram.advance s.sample.draws.nvram) := rfl
@[simp] theorem State.fetched_params : s.fetched.params = s.params := rfl
@[simp] theorem State.fetched_now : s.fetched.now = s.sample := rfl
@[simp] theorem State.fetched_inputs : s.fetched.inputs = s.inputs.tail := rfl
@[simp] theorem State.fetched_boundaries : s.fetched.boundaries = s.boundaries + 1 := rfl
@[simp] theorem State.fetched_events : s.fetched.events = .fetch s.pc :: s.events := rfl

/-! a program word placed from outside -/

@[simp] theorem State.placeWord_xu (w : Word) : (s.placeWord w).xu = s.xu := rfl
@[simp] theorem State.placeWord_xs (w : Word) : (s.placeWord w).xs = s.xs := rfl
@[simp] theorem State.placeWord_pc (w : Word) : (s.placeWord w).pc = s.pc := rfl
@[simp] theorem State.placeWord_epc (w : Word) : (s.placeWord w).epc = s.epc := rfl
@[simp] theorem State.placeWord_epcSaved (w : Word) : (s.placeWord w).epcSaved = s.epcSaved := rfl
@[simp] theorem State.placeWord_status (w : Word) : (s.placeWord w).status = s.status := rfl
@[simp] theorem State.placeWord_ifaulthdl (w : Word) : (s.placeWord w).ifaulthdl = s.ifaulthdl := rfl
@[simp] theorem State.placeWord_dfaulthdl (w : Word) : (s.placeWord w).dfaulthdl = s.dfaulthdl := rfl
@[simp] theorem State.placeWord_swihdl (w : Word) : (s.placeWord w).swihdl = s.swihdl := rfl
@[simp] theorem State.placeWord_illophdl (w : Word) : (s.placeWord w).illophdl = s.illophdl := rfl
@[simp] theorem State.placeWord_privophdl (w : Word) : (s.placeWord w).privophdl = s.privophdl := rfl
@[simp] theorem State.placeWord_exihdl (w : Word) : (s.placeWord w).exihdl = s.exihdl := rfl
@[simp] theorem State.placeWord_ienable (w : Word) : (s.placeWord w).ienable = s.ienable := rfl
@[simp] theorem State.placeWord_umcpen (w : Word) : (s.placeWord w).umcpen = s.umcpen := rfl
@[simp] theorem State.placeWord_counterLo (w : Word) : (s.placeWord w).counterLo = s.counterLo := rfl
@[simp] theorem State.placeWord_counterHi (w : Word) : (s.placeWord w).counterHi = s.counterHi := rfl
@[simp] theorem State.placeWord_imem (w : Word) : (s.placeWord w).imem = s.imem.write s.pc.toNat w := rfl
@[simp] theorem State.placeWord_dmem (w : Word) : (s.placeWord w).dmem = s.dmem := rfl
@[simp] theorem State.placeWord_ifaults (w : Word) : (s.placeWord w).ifaults = s.ifaults := rfl
@[simp] theorem State.placeWord_dfaults (w : Word) : (s.placeWord w).dfaults = s.dfaults := rfl
@[simp] theorem State.placeWord_nvram (w : Word) : (s.placeWord w).nvram = s.nvram := rfl
@[simp] theorem State.placeWord_params (w : Word) : (s.placeWord w).params = s.params := rfl
@[simp] theorem State.placeWord_now (w : Word) : (s.placeWord w).now = s.now := rfl
@[simp] theorem State.placeWord_inputs (w : Word) : (s.placeWord w).inputs = s.inputs := rfl
@[simp] theorem State.placeWord_boundaries (w : Word) : (s.placeWord w).boundaries = s.boundaries := rfl
@[simp] theorem State.placeWord_events (w : Word) : (s.placeWord w).events = s.events := rfl

/-! `mtctl` writes (R188): what a control-register write leaves alone whatever the register -/

@[simp] theorem State.writeCtl_xs (c : CtlReg) (v : Word) : (s.writeCtl c v).xs = s.xs := by
  cases c <;> rfl
@[simp] theorem State.writeCtl_pc (c : CtlReg) (v : Word) : (s.writeCtl c v).pc = s.pc := by
  cases c <;> rfl
@[simp] theorem State.writeCtl_imem (c : CtlReg) (v : Word) : (s.writeCtl c v).imem = s.imem := by
  cases c <;> rfl
@[simp] theorem State.writeCtl_dmem (c : CtlReg) (v : Word) : (s.writeCtl c v).dmem = s.dmem := by
  cases c <;> rfl
@[simp] theorem State.writeCtl_ifaults (c : CtlReg) (v : Word) : (s.writeCtl c v).ifaults = s.ifaults := by
  cases c <;> rfl
@[simp] theorem State.writeCtl_dfaults (c : CtlReg) (v : Word) : (s.writeCtl c v).dfaults = s.dfaults := by
  cases c <;> rfl
@[simp] theorem State.writeCtl_nvram (c : CtlReg) (v : Word) : (s.writeCtl c v).nvram = s.nvram := by
  cases c <;> rfl
@[simp] theorem State.writeCtl_params (c : CtlReg) (v : Word) : (s.writeCtl c v).params = s.params := by
  cases c <;> rfl
@[simp] theorem State.writeCtl_now (c : CtlReg) (v : Word) : (s.writeCtl c v).now = s.now := by
  cases c <;> rfl
@[simp] theorem State.writeCtl_inputs (c : CtlReg) (v : Word) : (s.writeCtl c v).inputs = s.inputs := by
  cases c <;> rfl
@[simp] theorem State.writeCtl_boundaries (c : CtlReg) (v : Word) : (s.writeCtl c v).boundaries = s.boundaries := by
  cases c <;> rfl
@[simp] theorem State.writeCtl_counterLo (c : CtlReg) (v : Word) : (s.writeCtl c v).counterLo = s.counterLo := by
  cases c <;> rfl
@[simp] theorem State.writeCtl_counterHi (c : CtlReg) (v : Word) : (s.writeCtl c v).counterHi = s.counterHi := by
  cases c <;> rfl
@[simp] theorem State.writeCtl_epc (c : CtlReg) (v : Word) :
    (s.writeCtl c v).epc = if c = .epc then v else s.epc := by
  cases c <;> rfl
@[simp] theorem State.writeCtl_epcSaved (c : CtlReg) (v : Word) :
    (s.writeCtl c v).epcSaved = if c = .epcsaved then v else s.epcSaved := by
  cases c <;> rfl
@[simp] theorem State.writeCtl_ifaulthdl (c : CtlReg) (v : Word) :
    (s.writeCtl c v).ifaulthdl = if c = .ifaulthdl then v else s.ifaulthdl := by
  cases c <;> rfl
@[simp] theorem State.writeCtl_dfaulthdl (c : CtlReg) (v : Word) :
    (s.writeCtl c v).dfaulthdl = if c = .dfaulthdl then v else s.dfaulthdl := by
  cases c <;> rfl
@[simp] theorem State.writeCtl_swihdl (c : CtlReg) (v : Word) :
    (s.writeCtl c v).swihdl = if c = .swihdl then v else s.swihdl := by
  cases c <;> rfl
@[simp] theorem State.writeCtl_illophdl (c : CtlReg) (v : Word) :
    (s.writeCtl c v).illophdl = if c = .illophdl then v else s.illophdl := by
  cases c <;> rfl
@[simp] theorem State.writeCtl_privophdl (c : CtlReg) (v : Word) :
    (s.writeCtl c v).privophdl = if c = .privophdl then v else s.privophdl := by
  cases c <;> rfl
@[simp] theorem State.writeCtl_ienable (c : CtlReg) (v : Word) :
    (s.writeCtl c v).ienable = if c = .ienable then v else s.ienable := by
  cases c <;> rfl
@[simp] theorem State.writeCtl_umcpen (c : CtlReg) (v : Word) :
    (s.writeCtl c v).umcpen = if c = .umcpen then v else s.umcpen := by
  cases c <;> rfl
@[simp] theorem State.writeCtl_status (c : CtlReg) (v : Word) :
    (s.writeCtl c v).status = if c = .status then Status.ofWord v else s.status := by
  cases c <;> rfl
@[simp] theorem State.writeCtl_events (c : CtlReg) (v : Word) :
    (s.writeCtl c v).events = if c = .iack then .ack (lowHalf v) :: s.events else s.events := by
  cases c <;> rfl

end Sys2Proof.Machine
end

