-- ==== Sys2Proof/Laws/Registers.lean ====
section
/-! SUPPORT. Registers: what reads after a write, in a bank, among the handler registers, and through the mode. -/

namespace Sys2Proof.Machine

theorem Bank.get_set (b : Bank) (r q : Reg) (v : Word) : (b.set r v).get q = if q = r then v else b.get q := by
  cases r <;> cases q <;> rfl

@[simp] theorem Bank.get_set_same (b : Bank) (r : Reg) (v : Word) : (b.set r v).get r = v := by
  simp [Bank.get_set]

theorem Handlers.get_set (h : Handlers) (n k : CpNum) (v : Word) :
    (h.set n v).get k = if k = n then v else h.get k := by
  cases n <;> cases k <;> rfl

/-- `x[q]` after `x[r] <- v` (R9, R21). -/
theorem State.reg_setReg (s : State) (r q : Reg) (v : Word) :
    (s.setReg r v).reg q = if q = r then v else s.reg q := by
  unfold State.reg
  by_cases h : s.status.m <;> simp [h, Bank.get_set]

/-- `x[q]` after an instruction that writes `x[r]` and falls through. -/
theorem State.reg_writeNext (s : State) (r q : Reg) (v : Word) :
    (s.writeNext r v).reg q = if q = r then v else s.reg q := s.reg_setReg r q v

/-- `x[q]` after a link. -/
theorem State.reg_linkAndJump (s : State) (q : Reg) (target : Word) :
    (s.linkAndJump target).reg q = if q = .r7 then nextPc s.pc else s.reg q := s.reg_setReg .r7 q _

/-- A register is read from the banks and STATUS.M alone. -/
theorem State.reg_congr {s t : State} (hu : t.xu = s.xu) (hs : t.xs = s.xs) (hm : t.status.m = s.status.m) (r : Reg) :
    t.reg r = s.reg r := by
  simp [State.reg, hu, hs, hm]

@[simp] theorem State.reg_advance (s : State) (r : Reg) : s.advance.reg r = s.reg r := rfl
@[simp] theorem State.reg_jump (s : State) (target : Word) (r : Reg) : (s.jump target).reg r = s.reg r := rfl
@[simp] theorem State.reg_setLink (s : State) (b : Bool) (r : Reg) : (s.setLink b).reg r = s.reg r := rfl
@[simp] theorem State.reg_emit (s : State) (e : Event) (r : Reg) : (s.emit e).reg r = s.reg r := rfl
@[simp] theorem State.reg_storeWord (s : State) (a v : Word) (r : Reg) : (s.storeWord a v).reg r = s.reg r := rfl
@[simp] theorem State.reg_fetched (s : State) (r : Reg) : s.fetched.reg r = s.reg r := rfl

/-- Only the register written changes (the frame of a register write). -/
theorem State.sameRegsBut_setReg (s : State) (r : Reg) (v : Word) : s.sameRegsBut r (s.setReg r v) := by
  unfold State.sameRegsBut
  by_cases h : s.status.m <;> simp [h, Bank.get_set] <;> intro q hq hr <;> exact absurd hr hq

/-- The bits of a word made of two halves. -/
theorem joinHalves_getLsbD (hi lo : Half) (k : Nat) :
    (joinHalves hi lo).getLsbD k = if k < 8 then lo.getLsbD k else hi.getLsbD (k - 8) :=
  BitVec.getLsbD_append

/-- A word made of two halves, as a number. -/
theorem joinHalves_toNat (hi lo : Half) : (joinHalves hi lo).toNat = hi.toNat * 2 ^ 8 + lo.toNat := by
  rw [joinHalves, BitVec.toNat_append, ← Nat.shiftLeft_add_eq_or_of_lt lo.isLt, Nat.shiftLeft_eq]

/-- A bit of a concatenation with one bit on top. -/
theorem getLsbD_ofBool_append {n : Nat} (b : Bool) (x : BitVec n) (k : Nat) :
    (BitVec.ofBool b ++ x).getLsbD k = if k < n then x.getLsbD k else (decide (k = n) && b) := by
  rw [BitVec.getLsbD_append]
  split
  · rfl
  · rw [BitVec.getLsbD_ofBool]
    grind

/-- A bit of the sampled pins (R41). -/
theorem State.pins_getLsbD (s : State) (n : CpNum) : s.pins.getLsbD n.bits.toNat = s.pin n := by
  unfold State.pins
  cases n <;>
    · repeat rw [getLsbD_ofBool_append]
      simp [CpNum.bits]

theorem nextPc_toNat (pc : Word) : (nextPc pc).toNat = (pc.toNat + 1) % 2 ^ 16 := by
  simp [nextPc, BitVec.toNat_add]

/-- A base plus a signed offset, as integers modulo 2^16 (R25, R78, R160). -/
theorem offsetFrom_toNat {n : Nat} (base : Word) (off : BitVec n) (hn : n ≤ 16) :
    ((offsetFrom base off).toNat : Int) = (base.toNat + off.toInt) % 2 ^ 16 := by
  have h : (offsetFrom base off).toNat = (((base.toNat : Int) + off.toInt) % 2 ^ 16).toNat := by
    have e : off.toInt = (sext off).toInt := by
      rw [sext, BitVec.toInt_signExtend_of_le hn]
    rw [e, offsetFrom, BitVec.toNat_add, BitVec.toInt_eq_toNat_bmod]
    have h1 := base.isLt
    have h2 := (sext off).isLt
    simp only [Int.bmod]
    split <;> omega
  omega

end Sys2Proof.Machine
end

