-- ==== Sys2Proof/Laws/Ops.lean ====
section
/-! SUPPORT. What each shared operation can do, said once: the ways a meaning ends, the trap entry, and the step (an inversion
lemma: if it answers next, one of these cases holds). -/

namespace Sys2Proof.Machine

/-! ## Frames -/

/-- A state that differs in its registers, `pc` and STATUS only has the same control registers. -/
theorem State.sameControl_of {s t : State} (h1 : t.epc = s.epc) (h2 : t.epcSaved = s.epcSaved) (h3 : s.sameHandlers t) :
    s.sameControl t := ⟨h1, h2, h3⟩

theorem State.sameMemory_of {s t : State} (hd : t.dmem = s.dmem) (hi : t.imem = s.imem) : s.sameMemory t :=
  ⟨fun a => by rw [hd], fun a => by rw [hi]⟩

theorem State.sameMemoryBut_write {s t : State} (addr v : Word) (hd : t.dmem = s.dmem.write addr.toNat v)
    (hi : t.imem = s.imem) : s.sameMemoryBut addr t :=
  ⟨fun a ha => by rw [hd, Memory.read_write, if_neg ha], fun a => by rw [hi]⟩

/-- What a trap of a cause does (R200, R215): the entry of R215 with the cause's EPC, vector and argument. -/
theorem State.trapTaken_raise (s : State) (c : Cause) :
    s.trapTaken (s.raise c) (s.resumeAddress c) (s.handler c) (s.trapArgument c) := by
  simp [State.trapTaken, State.sameRegs, State.sameHandlers, State.sameMemory, State.sameInstructions,
    State.samePlatform, State.samePins]

/-! ## The ways a meaning ends -/

/-- An instruction whose outcome is a register write and the next `pc`. -/
theorem completesWriting_of {i : Instr} {d : Reg} {s : State} {v : Word} {P : Word → Prop}
    (h : exec i s = .next (s.writeNext d v)) (hv : P v) : CompletesWriting i d s P := by
  refine ⟨_, h, ?_, nextPc_toNat s.pc, s.sameRegsBut_setReg d v, rfl, ?_, ?_, ?_, ?_⟩
  · rwa [State.reg_writeNext, if_pos rfl]
  · simp [State.sameControl, State.sameHandlers]
  · exact State.sameMemory_of rfl rfl
  · simp [State.samePlatform]
  · simp [State.samePins]

/-- An instruction whose outcome is a jump. -/
theorem completesJumping_of {i : Instr} {s : State} {p : Word} {P : Word → Prop}
    (h : exec i s = .next (s.jump p)) (hp : P p) : CompletesJumping i s P := by
  refine ⟨_, h, hp, ⟨rfl, rfl⟩, rfl, ?_, State.sameMemory_of rfl rfl, ?_, ?_⟩
  · simp [State.sameControl, State.sameHandlers]
  · simp [State.samePlatform]
  · simp [State.samePins]

/-- An instruction whose outcome is a link and a jump. -/
theorem completesLinking_of {i : Instr} {s : State} {p : Word} {P : Word → Prop}
    (h : exec i s = .next (s.linkAndJump p)) (hp : P p) : CompletesLinking i s P := by
  refine ⟨_, h, hp, ?_, s.sameRegsBut_setReg .r7 _, rfl, ?_, State.sameMemory_of rfl rfl, ?_, ?_⟩
  · rw [State.reg_linkAndJump, if_pos rfl, nextPc_toNat]
  · simp [State.sameControl, State.sameHandlers]
  · simp [State.samePlatform]
  · simp [State.samePins]

/-- A data access goes on only where the controller answers or refuses. -/
theorem State.access_next {s c f t : State} {addr : Word} (h : s.access addr c f = .next t) :
    (s.dataAnswer addr = .answers ∧ t = c) ∨ (s.dataAnswer addr = .refuses ∧ t = f.raise .dataFault) := by
  unfold State.access at h
  split at h <;> simp_all

/-- A coprocessor instruction goes on in one of two ways (R183). -/
theorem State.checked_next {s c t : State} {n : CpNum} (h : s.checked n c = .next t) :
    (s.coprocessorDenied n = true ∧ t = s.raise (.coprocessorDisabled n)) ∨
      (s.coprocessorDenied n = false ∧ t = c) := by
  unfold State.checked at h
  split at h <;> simp_all

/-- A privileged instruction goes on in one of two ways (R208). -/
theorem State.privileged_next {s c t : State} (h : s.privileged c = .next t) :
    (s.status.m = true ∧ t = s.raise .privilegedOperation) ∨ (s.status.m = false ∧ t = c) := by
  unfold State.privileged at h
  split at h <;> simp_all

/-- A register operation that may trap on overflow goes on in one of two ways (R141, D7). -/
theorem op3Trapping_next {o : Word → Word → Bool} {f : Word → Word → Word} {d a b : Reg} {s t : State}
    (h : op3Trapping o f d a b s = .next t) :
    (s.params.overflowTrap = true ∧ o (s.reg a) (s.reg b) = true ∧ t = s.raise .arithmeticOverflow) ∨
      t = s.writeNext d (f (s.reg a) (s.reg b)) := by
  unfold op3Trapping op3 at h
  split at h <;> simp_all

/-- A shift by a register that goes on writes its destination (R150). -/
theorem shiftByReg_next {f : Word → Nat → Word} {d a b : Reg} {s t : State} (h : shiftByReg f d a b s = .next t) :
    ∃ n, registerAmount s.params.shiftAmount (s.reg b) = some n ∧ t = s.writeNext d (f (s.reg a) n) := by
  unfold shiftByReg at h
  split at h <;> simp_all

/-! ## What an instruction can do -/

/-- The shapes of what an instruction can do to the state, each with the instructions it is of. -/
inductive Did (i : Instr) (s t : State) : Prop where
  /-- One register written, `pc` advanced. -/
  | wrote (d : Reg) (v : Word) (h : t = s.writeNext d v)
  /-- `pc` changed, and nothing else. -/
  | jumped (p : Word) (h : t = s.jump p)
  /-- R7 and `pc` changed. -/
  | linked (p : Word) (h : t = s.linkAndJump p)
  /-- A trap from the state itself; the overflow trap only where `OVERFLOW_TRAP` is true. -/
  | trapped (c : Cause) (ho : c = .arithmeticOverflow → s.params.overflowTrap = true) (h : t = s.raise c)
  | loaded (v a : Reg) (off : BitVec 5) (hi : i = .ldw v a off) (ha : s.dataAnswer (s.dataAddress a off) = .answers)
      (h : t = ((s.emit (.dataRead (s.dataAddress a off))).setLink true).writeNext v
        (s.loadWord (s.dataAddress a off)))
  | loadFaulted (v a : Reg) (off : BitVec 5) (hi : i = .ldw v a off)
      (ha : s.dataAnswer (s.dataAddress a off) = .refuses)
      (h : t = ((s.emit (.dataRead (s.dataAddress a off))).setLink false).raise .dataFault)
  | stored (v a : Reg) (off : BitVec 5) (hi : i = .stw v a off) (ha : s.dataAnswer (s.dataAddress a off) = .answers)
      (h : t = (((s.emit (.dataWrite (s.dataAddress a off) (s.reg v))).setLink false).storeWord
        (s.dataAddress a off) (s.reg v)).advance)
  | storeFaulted (v a : Reg) (off : BitVec 5) (hi : i = .stw v a off)
      (ha : s.dataAnswer (s.dataAddress a off) = .refuses)
      (h : t = ((s.emit (.dataWrite (s.dataAddress a off) (s.reg v))).setLink false).raise .dataFault)
  | storedConditionally (v a : Reg) (off : BitVec 5) (hi : i = .sc v a off) (hl : s.status.l = true)
      (ha : s.dataAnswer (s.dataAddress a off) = .answers)
      (h : t = (((s.emit (.dataWrite (s.dataAddress a off) (s.reg v))).storeWord
        (s.dataAddress a off) (s.reg v)).setLink false).writeNext v 1)
  | conditionalFaulted (v a : Reg) (off : BitVec 5) (hi : i = .sc v a off) (hl : s.status.l = true)
      (ha : s.dataAnswer (s.dataAddress a off) = .refuses)
      (h : t = (s.emit (.dataWrite (s.dataAddress a off) (s.reg v))).raise .dataFault)
  | readCoprocessor (d : Reg) (n : CpNum) (r : BitVec 5) (hi : i = .mfcp d n r) (hn : s.coprocessorDenied n = false)
      (h : t = (s.emit (.cpRead n r)).writeNext d (s.cpReadValue n r))
  | wroteCoprocessor (src : Reg) (n : CpNum) (r : BitVec 5) (hi : i = .mtcp src n r)
      (hn : s.coprocessorDenied n = false) (h : t = (s.cpWrite n r (s.reg src)).advance)
  | executedCoprocessor (p : Reg) (n : CpNum) (hi : i = .cpop p n) (hn : s.coprocessorDenied n = false)
      (h : t = (s.cpExec n (s.reg p)).advance)
  | wroteControl (src : Reg) (c : CtlReg) (hi : i = .mtctl src c) (hm : s.status.m = false)
      (h : t = (s.writeCtl c (s.reg src)).advance)
  | returned (hi : i = .rfi) (hm : s.status.m = false) (h : t = s.returnFromTrap)

/-- If an instruction answers a next state, it did one of these. -/
theorem exec_did {i : Instr} {s t : State} (h : exec i s = .next t) : Did i s t := by
  cases i with
  | or d a b | and d a b | nor d a b | xor d a b | addc d a b | subc d a b =>
    simp only [exec, execOr, execAnd, execNor, execXor, execAddc, execSubc, op3, Host.Outcome.next.injEq] at h
    exact .wrote _ _ h.symm
  | li r v | shlli r v | inci r v | deci r v | andi r v | ori r v | nori r v | xori r v | shli r v | shri r v
  | shrai r v | lhswp r =>
    simp only [exec, execLi, execShlli, execInci, execDeci, execAndi, execOri, execNori, execXori, execShli, execShri,
      execShrai, execLhswp, opImm, Host.Outcome.next.injEq] at h
    exact .wrote _ _ h.symm
  | add d a b | sub d a b =>
    rcases op3Trapping_next h with ⟨ho, _, h⟩ | h
    · exact .trapped _ (fun _ => ho) h
    · exact .wrote _ _ h
  | shl d a b | shr d a b | shra d a b =>
    obtain ⟨n, _, h⟩ := shiftByReg_next h
    exact .wrote _ _ h
  | ba off | jr r off =>
    simp only [exec, execBa, execJr, Host.Outcome.next.injEq] at h
    exact .jumped _ h.symm
  | bal off | jlr r off =>
    simp only [exec, execBal, execJlr, Host.Outcome.next.injEq] at h
    exact .linked _ h.symm
  | bz r off | bnz r off =>
    simp only [exec, execBz, execBnz, State.branchIf, Host.Outcome.next.injEq] at h
    split at h <;> exact .jumped _ h.symm
  | ldw v a off =>
    rcases State.access_next h with ⟨ha, h⟩ | ⟨ha, h⟩
    · exact .loaded v a off rfl ha h
    · exact .loadFaulted v a off rfl ha h
  | stw v a off =>
    rcases State.access_next h with ⟨ha, h⟩ | ⟨ha, h⟩
    · exact .stored v a off rfl ha h
    · exact .storeFaulted v a off rfl ha h
  | sc v a off =>
    simp only [exec, execSc] at h
    split at h
    case isTrue hl =>
      rcases State.access_next h with ⟨ha, h⟩ | ⟨ha, h⟩
      · exact .storedConditionally v a off rfl hl ha h
      · exact .conditionalFaulted v a off rfl hl ha h
    case isFalse hl =>
      simp only [Host.Outcome.next.injEq] at h
      exact .wrote _ _ h.symm
  | mfcp d n r =>
    rcases State.checked_next h with ⟨hn, h⟩ | ⟨hn, h⟩
    · exact .trapped _ (by simp) h
    · exact .readCoprocessor d n r rfl hn h
  | mtcp src n r =>
    rcases State.checked_next h with ⟨hn, h⟩ | ⟨hn, h⟩
    · exact .trapped _ (by simp) h
    · exact .wroteCoprocessor src n r rfl hn h
  | cpop p n =>
    rcases State.checked_next h with ⟨hn, h⟩ | ⟨hn, h⟩
    · exact .trapped _ (by simp) h
    · exact .executedCoprocessor p n rfl hn h
  | int arg =>
    simp only [exec, execInt, Host.Outcome.next.injEq] at h
    exact .trapped _ (by simp) h.symm
  | rfi =>
    rcases State.privileged_next h with ⟨hm, h⟩ | ⟨hm, h⟩
    · exact .trapped _ (by simp) h
    · exact .returned rfl hm h
  | mfctl d c =>
    rcases State.privileged_next h with ⟨hm, h⟩ | ⟨hm, h⟩
    · exact .trapped _ (by simp) h
    · exact .wrote _ _ h
  | mtctl src c =>
    rcases State.privileged_next h with ⟨hm, h⟩ | ⟨hm, h⟩
    · exact .trapped _ (by simp) h
    · exact .wroteControl src c rfl hm h

/-! ## What a step can do -/

/-- If a step answers a next state, it took an interrupt, took a trap of its fetch or its decoding, or executed an
instruction (R212). -/
theorem step_next {s t : State} (h : step s = .next t) :
    (∃ n, s.atBoundary.acceptedInterrupt = some n ∧ t = s.atBoundary.raise (.externalInterrupt n)) ∨
    (s.atBoundary.acceptedInterrupt = none ∧
      (t = s.fetched.raise .instructionFetchFault ∨ t = s.fetched.raise .illegalOperation)) ∨
    ∃ i, s.runs i ∧ exec i s.fetched = .next t := by
  unfold step State.cycle at h
  split at h
  case h_1 n hn =>
    refine .inl ⟨n, hn, ?_⟩
    simpa using h.symm
  case h_2 hn =>
    refine .inr ?_
    unfold State.runFetched at h
    split at h
    case h_1 hf =>
      unfold State.runWord at h
      split at h
      case h_1 i hd => exact .inr ⟨i, ⟨hn, hf, .inl hd⟩, h⟩
      case h_2 hd => exact .inl ⟨hn, .inr (by simpa using h.symm)⟩
      case h_3 i hd =>
        split at h
        case h_1 => simp at h
        case h_2 hp => exact .inr ⟨i, ⟨hn, hf, .inr ⟨hd, hp⟩⟩, h⟩
        case h_3 => exact .inl ⟨hn, .inr (by simpa using h.symm)⟩
    case h_2 hf => exact .inl ⟨hn, .inl (by simpa using h.symm)⟩
    case h_3 hf => simp at h

/-- What boundaries and fetches alone leave as it was. -/
theorem State.idle_keeps (k : Nat) (s : State) : (s.idle k).pc = s.pc ∧ s.sameRegs (s.idle k) ∧
    (s.idle k).ienable = s.ienable ∧ (s.idle k).imem = s.imem ∧ (s.idle k).ifaults = s.ifaults ∧
    (s.idle k).status.e = s.status.e := by
  induction k generalizing s with
  | zero => exact ⟨rfl, ⟨rfl, rfl⟩, rfl, rfl, rfl, rfl⟩
  | succ k ih => exact ih s.fetched

/-- One boundary more, at the end. -/
theorem State.idle_succ (k : Nat) (s : State) : s.idle (k + 1) = (s.idle k).fetched := by
  induction k generalizing s with
  | zero => rfl
  | succ k ih => exact ih s.fetched

/-- Where a step executes an instruction, its outcome is the instruction's. -/
theorem step_of_runs {s : State} {i : Instr} (h : s.runs i) : step s = exec i s.fetched := by
  obtain ⟨hn, hf, hd⟩ := h
  unfold step State.cycle
  rw [hn]
  simp only [State.runFetched, hf, State.runWord]
  rcases hd with hd | ⟨hd, hp⟩
  · rw [hd]
  · simp [hd, hp]

end Sys2Proof.Machine
end

