-- ==== Sys2Proof/Laws/Words.lean ====
section
/-! SUPPORT. The fields of a word: what the encoder's words hold in each field, what the masks of the row table read, and the
field codes of registers. -/

namespace Sys2Proof

@[simp] theorem Reg.ofBits_bits (r : Reg) : Reg.ofBits r.bits = r := by cases r <;> rfl
@[simp] theorem CpNum.ofBits_bits (n : CpNum) : CpNum.ofBits n.bits = n := by cases n <;> rfl
@[simp] theorem CtlReg.ofBits_bits (c : CtlReg) : CtlReg.ofBits c.bits = c := by
  cases c with
  | user r => cases r <;> rfl
  | exihdl n => cases n <;> rfl
  | _ => rfl

theorem Reg.bits_ofBits : ∀ b : BitVec 3, (Reg.ofBits b).bits = b := by decide
theorem CpNum.bits_ofBits : ∀ b : BitVec 3, (CpNum.ofBits b).bits = b := by decide
theorem CtlReg.bits_ofBits : ∀ b : BitVec 5, (CtlReg.ofBits b).bits = b := by decide

/-- The high part of a concatenation. -/
theorem extract_high {a b : Nat} (x : BitVec a) (y : BitVec b) : (x ++ y).extractLsb' b a = x := by
  apply BitVec.eq_of_getLsbD_eq
  intro k hk
  simp [BitVec.getLsbD_append, hk]

/-- A field that lies in the low part of a concatenation. -/
theorem extract_low {a b : Nat} (x : BitVec a) (y : BitVec b) (lo n : Nat) (h : lo + n ≤ b) :
    (x ++ y).extractLsb' lo n = y.extractLsb' lo n := by
  apply BitVec.eq_of_getLsbD_eq
  intro k hk
  simp [BitVec.getLsbD_append, hk]
  omega

/-! The fields of the encoder's words (R101). -/

@[simp] theorem encodeOp3_op (op : BitVec 5) (sub : BitVec 2) (d a b : Reg) :
    (encodeOp3 op sub d a b).extractLsb' 11 5 = op := extract_high op (d.bits ++ (a.bits ++ (b.bits ++ sub)))

@[simp] theorem encodeOp3_dest (op : BitVec 5) (sub : BitVec 2) (d a b : Reg) :
    (encodeOp3 op sub d a b).extractLsb' 8 3 = d.bits :=
  (extract_low op (d.bits ++ (a.bits ++ (b.bits ++ sub))) 8 3 (by decide)).trans (extract_high _ _)

@[simp] theorem encodeOp3_arg1 (op : BitVec 5) (sub : BitVec 2) (d a b : Reg) :
    (encodeOp3 op sub d a b).extractLsb' 5 3 = a.bits :=
  (extract_low op (d.bits ++ (a.bits ++ (b.bits ++ sub))) 5 3 (by decide)).trans
    ((extract_low d.bits _ 5 3 (by decide)).trans (extract_high _ _))

@[simp] theorem encodeOp3_arg2 (op : BitVec 5) (sub : BitVec 2) (d a b : Reg) :
    (encodeOp3 op sub d a b).extractLsb' 2 3 = b.bits :=
  (extract_low op (d.bits ++ (a.bits ++ (b.bits ++ sub))) 2 3 (by decide)).trans
    ((extract_low d.bits _ 2 3 (by decide)).trans ((extract_low a.bits _ 2 3 (by decide)).trans (extract_high _ _)))

@[simp] theorem encodeOp3_sub (op : BitVec 5) (sub : BitVec 2) (d a b : Reg) :
    (encodeOp3 op sub d a b).extractLsb' 0 2 = sub :=
  (extract_low op (d.bits ++ (a.bits ++ (b.bits ++ sub))) 0 2 (by decide)).trans
    ((extract_low d.bits _ 0 2 (by decide)).trans ((extract_low a.bits _ 0 2 (by decide)).trans
      ((extract_low b.bits _ 0 2 (by decide)).trans BitVec.extractLsb'_eq_self)))

@[simp] theorem encodeOp1_op (op : BitVec 5) (t : Reg) (val : BitVec 8) :
    (encodeOp1 op t val).extractLsb' 11 5 = op := extract_high op (t.bits ++ val)

@[simp] theorem encodeOp1_reg (op : BitVec 5) (t : Reg) (val : BitVec 8) :
    (encodeOp1 op t val).extractLsb' 8 3 = t.bits :=
  (extract_low op (t.bits ++ val) 8 3 (by decide)).trans (extract_high _ _)

@[simp] theorem encodeOp1_val (op : BitVec 5) (t : Reg) (val : BitVec 8) :
    (encodeOp1 op t val).extractLsb' 0 8 = val :=
  (extract_low op (t.bits ++ val) 0 8 (by decide)).trans
    ((extract_low t.bits val 0 8 (by decide)).trans BitVec.extractLsb'_eq_self)

@[simp] theorem encodeImm4_op (op : BitVec 5) (t : Reg) (val : BitVec 4) :
    (encodeImm4 op t val).extractLsb' 11 5 = op := extract_high op (t.bits ++ (0#4 ++ val))

@[simp] theorem encodeImm4_reg (op : BitVec 5) (t : Reg) (val : BitVec 4) :
    (encodeImm4 op t val).extractLsb' 8 3 = t.bits :=
  (extract_low op (t.bits ++ (0#4 ++ val)) 8 3 (by decide)).trans (extract_high _ _)

@[simp] theorem encodeImm4_mbz (op : BitVec 5) (t : Reg) (val : BitVec 4) :
    (encodeImm4 op t val).extractLsb' 4 4 = 0 :=
  (extract_low op (t.bits ++ (0#4 ++ val)) 4 4 (by decide)).trans
    ((extract_low t.bits (0#4 ++ val) 4 4 (by decide)).trans (extract_high _ _))

@[simp] theorem encodeImm4_val (op : BitVec 5) (t : Reg) (val : BitVec 4) :
    (encodeImm4 op t val).extractLsb' 0 4 = val :=
  (extract_low op (t.bits ++ (0#4 ++ val)) 0 4 (by decide)).trans
    ((extract_low t.bits (0#4 ++ val) 0 4 (by decide)).trans
      ((extract_low 0#4 val 0 4 (by decide)).trans BitVec.extractLsb'_eq_self))

@[simp] theorem encodeOp0_op (op : BitVec 5) (val : BitVec 11) :
    (encodeOp0 op val).extractLsb' 11 5 = op := extract_high op val

@[simp] theorem encodeOp0_val (op : BitVec 5) (val : BitVec 11) :
    (encodeOp0 op val).extractLsb' 0 11 = val :=
  (extract_low op val 0 11 (by decide)).trans BitVec.extractLsb'_eq_self

@[simp] theorem encodeOp2_op (op : BitVec 5) (r : Reg) (mid : BitVec 3) (low : BitVec 5) :
    (encodeOp2 op r mid low).extractLsb' 11 5 = op := extract_high op (r.bits ++ (mid ++ low))

@[simp] theorem encodeOp2_reg (op : BitVec 5) (r : Reg) (mid : BitVec 3) (low : BitVec 5) :
    (encodeOp2 op r mid low).extractLsb' 8 3 = r.bits :=
  (extract_low op (r.bits ++ (mid ++ low)) 8 3 (by decide)).trans (extract_high _ _)

@[simp] theorem encodeOp2_mid (op : BitVec 5) (r : Reg) (mid : BitVec 3) (low : BitVec 5) :
    (encodeOp2 op r mid low).extractLsb' 5 3 = mid :=
  (extract_low op (r.bits ++ (mid ++ low)) 5 3 (by decide)).trans
    ((extract_low r.bits (mid ++ low) 5 3 (by decide)).trans (extract_high _ _))

@[simp] theorem encodeOp2_low (op : BitVec 5) (r : Reg) (mid : BitVec 3) (low : BitVec 5) :
    (encodeOp2 op r mid low).extractLsb' 0 5 = low :=
  (extract_low op (r.bits ++ (mid ++ low)) 0 5 (by decide)).trans
    ((extract_low r.bits (mid ++ low) 0 5 (by decide)).trans
      ((extract_low mid low 0 5 (by decide)).trans BitVec.extractLsb'_eq_self))

/-! What the masks of R103 read of a word. -/

theorem and_opcodeMask (w : Word) : w &&& 0xf800#16 = (w.extractLsb' 11 5).zeroExtend 16 <<< 11 := by
  apply BitVec.eq_of_getLsbD_eq
  intro k hk
  interval_cases k <;> simp

theorem and_subcodeMask (w : Word) :
    w &&& 0xf803#16 = (w.extractLsb' 11 5).zeroExtend 16 <<< 11 ||| (w.extractLsb' 0 2).zeroExtend 16 := by
  apply BitVec.eq_of_getLsbD_eq
  intro k hk
  interval_cases k <;> simp

theorem and_imm4Mask (w : Word) : w &&& 0x00f0#16 = (w.extractLsb' 4 4).zeroExtend 16 <<< 4 := by
  apply BitVec.eq_of_getLsbD_eq
  intro k hk
  interval_cases k <;> simp

theorem and_imm8Mask (w : Word) : w &&& 0x00ff#16 = (w.extractLsb' 0 8).zeroExtend 16 := by
  apply BitVec.eq_of_getLsbD_eq
  intro k hk
  interval_cases k <;> simp

theorem and_low5Mask (w : Word) : w &&& 0x001f#16 = (w.extractLsb' 0 5).zeroExtend 16 := by
  apply BitVec.eq_of_getLsbD_eq
  intro k hk
  interval_cases k <;> simp

theorem and_low11Mask (w : Word) : w &&& 0x07ff#16 = (w.extractLsb' 0 11).zeroExtend 16 := by
  apply BitVec.eq_of_getLsbD_eq
  intro k hk
  interval_cases k <;> simp

theorem and_mid3Mask (w : Word) : w &&& 0x00e0#16 = (w.extractLsb' 5 3).zeroExtend 16 <<< 5 := by
  apply BitVec.eq_of_getLsbD_eq
  intro k hk
  interval_cases k <;> simp

end Sys2Proof
end

