-- ==== Sys2Proof/Laws/PerInstr.lean ====
section
/-! SUPPORT. What is proved for each instruction by itself. Family `EncodesToARow`: the word of the instruction is selected by a
row of R103, with that row's must-be-zero bits zero (R106). -/

namespace Sys2Proof.Laws.EncodesToARow

/-- The encoder's word of `i` is one the row table admits. -/
def Statement (i : Instr) : Prop := WellFormed.word (encode i) = true

/-- The row table read through the fields of a word. -/
theorem word_of_fields (w : Word) (h : ∃ r ∈ WellFormed.rows,
    WellFormed.selects w r = true ∧ WellFormed.mbzClear w r = true) : WellFormed.word w = true := by
  simpa [WellFormed.word] using h

theorem or (d a b : Reg) : Statement (.or d a b) :=
  word_of_fields _ ⟨⟨"or", 0x0000, 0xf803, 0⟩, by decide, by
    simp [WellFormed.selects, encode, and_subcodeMask], by simp [WellFormed.mbzClear]⟩

theorem and (d a b : Reg) : Statement (.and d a b) :=
  word_of_fields _ ⟨⟨"and", 0x0001, 0xf803, 0⟩, by decide, by
    simp [WellFormed.selects, encode, and_subcodeMask], by simp [WellFormed.mbzClear]⟩

theorem nor (d a b : Reg) : Statement (.nor d a b) :=
  word_of_fields _ ⟨⟨"nor", 0x0002, 0xf803, 0⟩, by decide, by
    simp [WellFormed.selects, encode, and_subcodeMask], by simp [WellFormed.mbzClear]⟩

theorem xor (d a b : Reg) : Statement (.xor d a b) :=
  word_of_fields _ ⟨⟨"xor", 0x0003, 0xf803, 0⟩, by decide, by
    simp [WellFormed.selects, encode, and_subcodeMask], by simp [WellFormed.mbzClear]⟩

theorem add (d a b : Reg) : Statement (.add d a b) :=
  word_of_fields _ ⟨⟨"add", 0x0800, 0xf803, 0⟩, by decide, by
    simp [WellFormed.selects, encode, and_subcodeMask], by simp [WellFormed.mbzClear]⟩

theorem sub (d a b : Reg) : Statement (.sub d a b) :=
  word_of_fields _ ⟨⟨"sub", 0x0801, 0xf803, 0⟩, by decide, by
    simp [WellFormed.selects, encode, and_subcodeMask], by simp [WellFormed.mbzClear]⟩

theorem addc (d a b : Reg) : Statement (.addc d a b) :=
  word_of_fields _ ⟨⟨"addc", 0x0802, 0xf803, 0⟩, by decide, by
    simp [WellFormed.selects, encode, and_subcodeMask], by simp [WellFormed.mbzClear]⟩

theorem subc (d a b : Reg) : Statement (.subc d a b) :=
  word_of_fields _ ⟨⟨"subc", 0x0803, 0xf803, 0⟩, by decide, by
    simp [WellFormed.selects, encode, and_subcodeMask], by simp [WellFormed.mbzClear]⟩

theorem shl (d a b : Reg) : Statement (.shl d a b) :=
  word_of_fields _ ⟨⟨"shl", 0x1000, 0xf803, 0⟩, by decide, by
    simp [WellFormed.selects, encode, and_subcodeMask], by simp [WellFormed.mbzClear]⟩

theorem shr (d a b : Reg) : Statement (.shr d a b) :=
  word_of_fields _ ⟨⟨"shr", 0x1001, 0xf803, 0⟩, by decide, by
    simp [WellFormed.selects, encode, and_subcodeMask], by simp [WellFormed.mbzClear]⟩

theorem shra (d a b : Reg) : Statement (.shra d a b) :=
  word_of_fields _ ⟨⟨"shra", 0x1002, 0xf803, 0⟩, by decide, by
    simp [WellFormed.selects, encode, and_subcodeMask], by simp [WellFormed.mbzClear]⟩

theorem li (t : Reg) (val : BitVec 8) : Statement (.li t val) :=
  word_of_fields _ ⟨⟨"li", 0x1800, 0xf800, 0⟩, by decide, by
    simp [WellFormed.selects, encode, and_opcodeMask], by simp [WellFormed.mbzClear]⟩

theorem shlli (t : Reg) (val : BitVec 8) : Statement (.shlli t val) :=
  word_of_fields _ ⟨⟨"shlli", 0x2000, 0xf800, 0⟩, by decide, by
    simp [WellFormed.selects, encode, and_opcodeMask], by simp [WellFormed.mbzClear]⟩

theorem inci (t : Reg) (val : BitVec 8) : Statement (.inci t val) :=
  word_of_fields _ ⟨⟨"inci", 0x2800, 0xf800, 0⟩, by decide, by
    simp [WellFormed.selects, encode, and_opcodeMask], by simp [WellFormed.mbzClear]⟩

theorem deci (t : Reg) (val : BitVec 8) : Statement (.deci t val) :=
  word_of_fields _ ⟨⟨"deci", 0x3000, 0xf800, 0⟩, by decide, by
    simp [WellFormed.selects, encode, and_opcodeMask], by simp [WellFormed.mbzClear]⟩

theorem andi (t : Reg) (val : BitVec 8) : Statement (.andi t val) :=
  word_of_fields _ ⟨⟨"andi", 0x3800, 0xf800, 0⟩, by decide, by
    simp [WellFormed.selects, encode, and_opcodeMask], by simp [WellFormed.mbzClear]⟩

theorem ori (t : Reg) (val : BitVec 8) : Statement (.ori t val) :=
  word_of_fields _ ⟨⟨"ori", 0x4000, 0xf800, 0⟩, by decide, by
    simp [WellFormed.selects, encode, and_opcodeMask], by simp [WellFormed.mbzClear]⟩

theorem nori (t : Reg) (val : BitVec 8) : Statement (.nori t val) :=
  word_of_fields _ ⟨⟨"nori", 0x4800, 0xf800, 0⟩, by decide, by
    simp [WellFormed.selects, encode, and_opcodeMask], by simp [WellFormed.mbzClear]⟩

theorem xori (t : Reg) (val : BitVec 8) : Statement (.xori t val) :=
  word_of_fields _ ⟨⟨"xori", 0x5000, 0xf800, 0⟩, by decide, by
    simp [WellFormed.selects, encode, and_opcodeMask], by simp [WellFormed.mbzClear]⟩

theorem shli (t : Reg) (val : BitVec 4) : Statement (.shli t val) :=
  word_of_fields _ ⟨⟨"shli", 0x5800, 0xf800, 0x00f0⟩, by decide, by
    simp [WellFormed.selects, encode, and_opcodeMask], by simp [WellFormed.mbzClear, encode, and_imm4Mask]⟩

theorem shri (t : Reg) (val : BitVec 4) : Statement (.shri t val) :=
  word_of_fields _ ⟨⟨"shri", 0x6000, 0xf800, 0x00f0⟩, by decide, by
    simp [WellFormed.selects, encode, and_opcodeMask], by simp [WellFormed.mbzClear, encode, and_imm4Mask]⟩

theorem shrai (t : Reg) (val : BitVec 4) : Statement (.shrai t val) :=
  word_of_fields _ ⟨⟨"shrai", 0x6800, 0xf800, 0x00f0⟩, by decide, by
    simp [WellFormed.selects, encode, and_opcodeMask], by simp [WellFormed.mbzClear, encode, and_imm4Mask]⟩

theorem lhswp (t : Reg) : Statement (.lhswp t) :=
  word_of_fields _ ⟨⟨"lhswp", 0x7000, 0xf800, 0x00ff⟩, by decide, by
    simp [WellFormed.selects, encode, and_opcodeMask], by simp [WellFormed.mbzClear, encode, and_imm8Mask]⟩

theorem ba (off : BitVec 11) : Statement (.ba off) :=
  word_of_fields _ ⟨⟨"ba", 0x7800, 0xf800, 0⟩, by decide, by
    simp [WellFormed.selects, encode, and_opcodeMask], by simp [WellFormed.mbzClear]⟩

theorem bal (off : BitVec 11) : Statement (.bal off) :=
  word_of_fields _ ⟨⟨"bal", 0x8000, 0xf800, 0⟩, by decide, by
    simp [WellFormed.selects, encode, and_opcodeMask], by simp [WellFormed.mbzClear]⟩

theorem bz (t : Reg) (off : BitVec 8) : Statement (.bz t off) :=
  word_of_fields _ ⟨⟨"bz", 0x8800, 0xf800, 0⟩, by decide, by
    simp [WellFormed.selects, encode, and_opcodeMask], by simp [WellFormed.mbzClear]⟩

theorem bnz (t : Reg) (off : BitVec 8) : Statement (.bnz t off) :=
  word_of_fields _ ⟨⟨"bnz", 0x9000, 0xf800, 0⟩, by decide, by
    simp [WellFormed.selects, encode, and_opcodeMask], by simp [WellFormed.mbzClear]⟩

theorem jr (t : Reg) (off : BitVec 8) : Statement (.jr t off) :=
  word_of_fields _ ⟨⟨"jr", 0x9800, 0xf800, 0⟩, by decide, by
    simp [WellFormed.selects, encode, and_opcodeMask], by simp [WellFormed.mbzClear]⟩

theorem jlr (t : Reg) (off : BitVec 8) : Statement (.jlr t off) :=
  word_of_fields _ ⟨⟨"jlr", 0xa000, 0xf800, 0⟩, by decide, by
    simp [WellFormed.selects, encode, and_opcodeMask], by simp [WellFormed.mbzClear]⟩

theorem ldw (v a : Reg) (off : BitVec 5) : Statement (.ldw v a off) :=
  word_of_fields _ ⟨⟨"ldw", 0xa800, 0xf800, 0⟩, by decide, by
    simp [WellFormed.selects, encode, and_opcodeMask], by simp [WellFormed.mbzClear]⟩

theorem stw (v a : Reg) (off : BitVec 5) : Statement (.stw v a off) :=
  word_of_fields _ ⟨⟨"stw", 0xb000, 0xf800, 0⟩, by decide, by
    simp [WellFormed.selects, encode, and_opcodeMask], by simp [WellFormed.mbzClear]⟩

theorem sc (v a : Reg) (off : BitVec 5) : Statement (.sc v a off) :=
  word_of_fields _ ⟨⟨"sc", 0xc000, 0xf800, 0⟩, by decide, by
    simp [WellFormed.selects, encode, and_opcodeMask], by simp [WellFormed.mbzClear]⟩

theorem mfcp (d : Reg) (n : CpNum) (r : BitVec 5) : Statement (.mfcp d n r) :=
  word_of_fields _ ⟨⟨"mfcp", 0xc800, 0xf800, 0⟩, by decide, by
    simp [WellFormed.selects, encode, and_opcodeMask], by simp [WellFormed.mbzClear]⟩

theorem mtcp (src : Reg) (n : CpNum) (r : BitVec 5) : Statement (.mtcp src n r) :=
  word_of_fields _ ⟨⟨"mtcp", 0xd000, 0xf800, 0⟩, by decide, by
    simp [WellFormed.selects, encode, and_opcodeMask], by simp [WellFormed.mbzClear]⟩

theorem cpop (p : Reg) (n : CpNum) : Statement (.cpop p n) :=
  word_of_fields _ ⟨⟨"cpop", 0xd800, 0xf800, 0x001f⟩, by decide, by
    simp [WellFormed.selects, encode, and_opcodeMask], by simp [WellFormed.mbzClear, encode, and_low5Mask]⟩

theorem int (arg : BitVec 11) : Statement (.int arg) :=
  word_of_fields _ ⟨⟨"int", 0xe000, 0xf800, 0⟩, by decide, by
    simp [WellFormed.selects, encode, and_opcodeMask], by simp [WellFormed.mbzClear]⟩

theorem rfi : Statement (.rfi) :=
  word_of_fields _ ⟨⟨"rfi", 0xe800, 0xf800, 0x07ff⟩, by decide, by
    simp [WellFormed.selects, encode, and_opcodeMask], by simp [WellFormed.mbzClear, encode, and_low11Mask]⟩

theorem mfctl (d : Reg) (c : CtlReg) : Statement (.mfctl d c) :=
  word_of_fields _ ⟨⟨"mfctl", 0xf000, 0xf800, 0x00e0⟩, by decide, by
    simp [WellFormed.selects, encode, and_opcodeMask], by simp [WellFormed.mbzClear, encode, and_mid3Mask]⟩

theorem mtctl (src : Reg) (c : CtlReg) : Statement (.mtctl src c) :=
  word_of_fields _ ⟨⟨"mtctl", 0xf800, 0xf800, 0x00e0⟩, by decide, by
    simp [WellFormed.selects, encode, and_opcodeMask], by simp [WellFormed.mbzClear, encode, and_mid3Mask]⟩

end Sys2Proof.Laws.EncodesToARow
end

