-- ==== Sys2Proof/Tests/Slice0.lean ====
section
/-! SUPPORT. Tests: ill-formed words refused, words of the spec decoded, one-step vectors of spec/95_test_vectors.md (the
source of every expected value here, but where a comment says otherwise), and for each statement with hypotheses a witness
that meets them together. Nothing here is a statement for the provers. -/

namespace Sys2Proof.Tests

open Sys2Proof.Machine

/-! ## Words that are not well formed (R105, R106) -/

theorem test_ill_formed_opcode_10111 : WellFormed.word 0xB800 = false ∧ decode 0xB800 = .unassigned := by decide
theorem test_ill_formed_opcode_10111_last : WellFormed.word 0xBFFF = false ∧ decode 0xBFFF = .unassigned := by decide
theorem test_ill_formed_opcode_00010_subcode_11 : WellFormed.word 0x1003 = false ∧ decode 0x1003 = .unassigned := by decide
theorem test_ill_formed_opcode_00010_subcode_11_last : WellFormed.word 0x17FF = false ∧ decode 0x17FF = .unassigned := by decide
theorem test_ill_formed_shli_bit_4 : WellFormed.word 0x5810 = false ∧ decode 0x5810 = .mustBeZero (.shli .r0 0) := by decide
theorem test_ill_formed_shri_bit_7 : WellFormed.word 0x6083 = false ∧ decode 0x6083 = .mustBeZero (.shri .r0 3) := by decide
theorem test_ill_formed_shrai_bits_7_to_4 : WellFormed.word 0x68FF = false ∧ decode 0x68FF = .mustBeZero (.shrai .r0 15) := by decide
theorem test_ill_formed_lhswp_bit_0 : WellFormed.word 0x7101 = false ∧ decode 0x7101 = .mustBeZero (.lhswp .r1) := by decide
theorem test_ill_formed_cpop_bit_0 : WellFormed.word 0xD941 = false ∧ decode 0xD941 = .mustBeZero (.cpop .r1 .cp2) := by decide
theorem test_ill_formed_rfi_bit_10 : WellFormed.word 0xEC00 = false ∧ decode 0xEC00 = .mustBeZero .rfi := by decide
theorem test_ill_formed_rfi_bit_0 : WellFormed.word 0xE801 = false ∧ decode 0xE801 = .mustBeZero .rfi := by decide
theorem test_ill_formed_mfctl_bit_5 : WellFormed.word 0xF028 = false ∧ decode 0xF028 = .mustBeZero (.mfctl .r0 .epc) := by decide
theorem test_ill_formed_mtctl_bit_7 : WellFormed.word 0xF88A = false ∧ decode 0xF88A = .mustBeZero (.mtctl .r0 .status) := by decide

/-- The row table has the 39 rows of R103. -/
theorem test_row_count : WellFormed.rows.length = 39 := by decide

/-! ## Decoding: each word written out bit by bit from the figures of R101 and the opcodes of R103 -/

theorem test_decode_or : decode (0b00000#5 ++ 0b000#3 ++ 0b001#3 ++ 0b010#3 ++ 0b00#2) = .ok (.or .r0 .r1 .r2) := by decide
theorem test_decode_and : decode (0b00000#5 ++ 0b011#3 ++ 0b001#3 ++ 0b010#3 ++ 0b01#2) = .ok (.and .r3 .r1 .r2) := by decide
theorem test_decode_nor : decode (0b00000#5 ++ 0b000#3 ++ 0b001#3 ++ 0b010#3 ++ 0b10#2) = .ok (.nor .r0 .r1 .r2) := by decide
theorem test_decode_xor : decode (0b00000#5 ++ 0b100#3 ++ 0b101#3 ++ 0b110#3 ++ 0b11#2) = .ok (.xor .r4 .r5 .r6) := by decide
theorem test_decode_add : decode (0b00001#5 ++ 0b011#3 ++ 0b010#3 ++ 0b001#3 ++ 0b00#2) = .ok (.add .r3 .r2 .r1) := by decide
theorem test_decode_sub : decode (0b00001#5 ++ 0b000#3 ++ 0b001#3 ++ 0b010#3 ++ 0b01#2) = .ok (.sub .r0 .r1 .r2) := by decide
theorem test_decode_addc : decode (0b00001#5 ++ 0b010#3 ++ 0b000#3 ++ 0b001#3 ++ 0b10#2) = .ok (.addc .r2 .r0 .r1) := by decide
theorem test_decode_subc : decode (0b00001#5 ++ 0b111#3 ++ 0b001#3 ++ 0b010#3 ++ 0b11#2) = .ok (.subc .r7 .r1 .r2) := by decide
theorem test_decode_shl : decode (0b00010#5 ++ 0b001#3 ++ 0b010#3 ++ 0b011#3 ++ 0b00#2) = .ok (.shl .r1 .r2 .r3) := by decide
theorem test_decode_shr : decode (0b00010#5 ++ 0b000#3 ++ 0b001#3 ++ 0b010#3 ++ 0b01#2) = .ok (.shr .r0 .r1 .r2) := by decide
theorem test_decode_shra : decode (0b00010#5 ++ 0b000#3 ++ 0b001#3 ++ 0b010#3 ++ 0b10#2) = .ok (.shra .r0 .r1 .r2) := by decide
theorem test_decode_li : decode (0b00011#5 ++ 0b000#3 ++ 0b11110000#8) = .ok (.li .r0 0xF0) := by decide
theorem test_decode_shlli : decode (0b00100#5 ++ 0b000#3 ++ 0b00001101#8) = .ok (.shlli .r0 0x0D) := by decide
theorem test_decode_inci : decode (0b00101#5 ++ 0b001#3 ++ 0b11111111#8) = .ok (.inci .r1 0xFF) := by decide
theorem test_decode_deci : decode (0b00110#5 ++ 0b110#3 ++ 0b00000100#8) = .ok (.deci .r6 4) := by decide
theorem test_decode_andi : decode (0b00111#5 ++ 0b000#3 ++ 0b11111101#8) = .ok (.andi .r0 0xFD) := by decide
theorem test_decode_ori : decode (0b01000#5 ++ 0b000#3 ++ 0b00000010#8) = .ok (.ori .r0 2) := by decide
theorem test_decode_nori : decode (0b01001#5 ++ 0b000#3 ++ 0b00001111#8) = .ok (.nori .r0 0x0F) := by decide
theorem test_decode_xori : decode (0b01010#5 ++ 0b101#3 ++ 0b10000001#8) = .ok (.xori .r5 0x81) := by decide
theorem test_decode_shli : decode (0b01011#5 ++ 0b010#3 ++ 0b0000#4 ++ 0b1111#4) = .ok (.shli .r2 15) := by decide
theorem test_decode_shri : decode (0b01100#5 ++ 0b011#3 ++ 0b0000#4 ++ 0b0100#4) = .ok (.shri .r3 4) := by decide
theorem test_decode_shrai : decode (0b01101#5 ++ 0b000#3 ++ 0b0000#4 ++ 0b1111#4) = .ok (.shrai .r0 15) := by decide
theorem test_decode_lhswp : decode (0b01110#5 ++ 0b111#3 ++ 0b00000000#8) = .ok (.lhswp .r7) := by decide
theorem test_decode_ba : decode (0b01111#5 ++ 0b11111111110#11) = .ok (.ba (-2)) := by decide
theorem test_decode_bal : decode (0b10000#5 ++ 0b00000000011#11) = .ok (.bal 3) := by decide
theorem test_decode_bz : decode (0b10001#5 ++ 0b001#3 ++ 0b11111101#8) = .ok (.bz .r1 (-3)) := by decide
theorem test_decode_bnz : decode (0b10010#5 ++ 0b001#3 ++ 0b11111110#8) = .ok (.bnz .r1 (-2)) := by decide
theorem test_decode_jr : decode (0b10011#5 ++ 0b011#3 ++ 0b11111111#8) = .ok (.jr .r3 (-1)) := by decide
theorem test_decode_jlr : decode (0b10100#5 ++ 0b111#3 ++ 0b00000010#8) = .ok (.jlr .r7 2) := by decide
theorem test_decode_ldw : decode (0b10101#5 ++ 0b001#3 ++ 0b000#3 ++ 0b10000#5) = .ok (.ldw .r1 .r0 (-16)) := by decide
theorem test_decode_stw : decode (0b10110#5 ++ 0b001#3 ++ 0b110#3 ++ 0b00011#5) = .ok (.stw .r1 .r6 3) := by decide
theorem test_decode_sc : decode (0b11000#5 ++ 0b001#3 ++ 0b000#3 ++ 0b00100#5) = .ok (.sc .r1 .r0 4) := by decide
theorem test_decode_mfcp : decode (0b11001#5 ++ 0b001#3 ++ 0b010#3 ++ 0b00011#5) = .ok (.mfcp .r1 .cp2 3) := by decide
theorem test_decode_mtcp : decode (0b11010#5 ++ 0b001#3 ++ 0b111#3 ++ 0b11111#5) = .ok (.mtcp .r1 .cp7 31) := by decide
theorem test_decode_cpop : decode (0b11011#5 ++ 0b001#3 ++ 0b010#3 ++ 0b00000#5) = .ok (.cpop .r1 .cp2) := by decide
theorem test_decode_int : decode (0b11100#5 ++ 0b00100100011#11) = .ok (.int 0x123) := by decide
theorem test_decode_rfi : decode (0b11101#5 ++ 0b00000000000#11) = .ok .rfi := by decide
theorem test_decode_mfctl : decode (0b11110#5 ++ 0b010#3 ++ 0b000#3 ++ 0b00011#5) = .ok (.mfctl .r2 (.user .r3)) := by decide
theorem test_decode_mtctl : decode (0b11111#5 ++ 0b000#3 ++ 0b000#3 ++ 0b11010#5) = .ok (.mtctl .r0 .iack) := by decide

/-- The map of R27 at the ends of its four groups. -/
theorem test_control_numbers : CtlReg.ofBits 0 = .user .r0 ∧ CtlReg.ofBits 7 = .user .r7 ∧ CtlReg.ofBits 8 = .epc ∧
    CtlReg.ofBits 15 = .privophdl ∧ CtlReg.ofBits 16 = .exihdl .cp0 ∧ CtlReg.ofBits 23 = .exihdl .cp7 ∧
    CtlReg.ofBits 24 = .ienable ∧ CtlReg.ofBits 25 = .ipend ∧ CtlReg.ofBits 26 = .iack ∧ CtlReg.ofBits 27 = .umcpen ∧
    CtlReg.ofBits 28 = .counterLo ∧ CtlReg.ofBits 29 = .counterHi ∧ CtlReg.ofBits 31 = .c31 := by decide

/-- A table word of sixteen bits. -/
theorem test_table_word : decodeTableWord 16 0xF81A = some (.mtctl .r0 .iack) ∧ decodeTableWord 16 0xB800 = none ∧
    decodeTableWord 16 0xE801 = none := by decide

/-! ## One step on a small state -/

/-- The state after reset, at word 0x0100, with one quiet boundary scripted. -/
def base : State := { State.reset with pc := 0x0100, inputs := [quietBoundary] }

/-- Supervisor registers 0, 1 and 2. -/
def regs (r0 r1 r2 : Word) (s : State) : State := ((s.setReg .r0 r0).setReg .r1 r1).setReg .r2 r2

/-- STATUS as a word, in a state. -/
def withStatus (w : Word) (s : State) : State := { s with status := Status.ofWord w }

/-- What a word does in one step, seen through `f`. -/
def ran {α : Type} (w : Nat) (s : State) (f : State → α) : Option α :=
  match step (s.withFetchWord 16 w) with
  | .next t => some (f t)
  | .fault _ => none
  | .refused _ => none

/-- What the next step does, seen through `f`. -/
def stepped {α : Type} (s : State) (f : State → α) : Option α :=
  match step s with
  | .next t => some (f t)
  | .fault _ => none
  | .refused _ => none

/-- The kernel evaluates the first step from reset. -/
theorem test_first_step_from_reset : ran 0x18F0 State.reset (fun t => (t.xs.r0, t.pc)) = some (0x00F0, 0x0001) := by decide

/-- R50: with nothing placed, the first word of an empty instruction memory reads 0x0000, `or r0, r0, r0` (log 2). -/
theorem test_reset_runs : stepped State.reset (fun t => t.pc) = some 0x0001 := by decide

theorem test_or :
    ran 0x0028 (regs 0x0000 0x00F0 0x0F0F base)
      (fun t => (t.xs.r0, t.pc)) =
      some (0x0FFF, 0x0101) := by decide
/-- From the rule R132: FF0F and 0FF0. -/
theorem test_and :
    ran 0x0029 (regs 0x0000 0xFF0F 0x0FF0 base)
      (fun t => (t.xs.r0, t.pc)) =
      some (0x0F00, 0x0101) := by decide
theorem test_nor :
    ran 0x002A (regs 0x0000 0x00F0 0x0F00 base)
      (fun t => (t.xs.r0, t.pc)) =
      some (0xF00F, 0x0101) := by decide
theorem test_xor :
    ran 0x002B (regs 0x0000 0xFFFF 0x0F0F base)
      (fun t => (t.xs.r0, t.pc)) =
      some (0xF0F0, 0x0101) := by decide
theorem test_andi :
    ran 0x38FD (regs 0xABCF 0x0000 0x0000 base)
      (fun t => (t.xs.r0, t.pc)) =
      some (0xABCD, 0x0101) := by decide
theorem test_andi_keeps_high :
    ran 0x3800 (regs 0xFFFF 0x0000 0x0000 base)
      (fun t => (t.xs.r0, t.pc)) =
      some (0xFF00, 0x0101) := by decide
theorem test_ori :
    ran 0x4002 (regs 0xAB01 0x0000 0x0000 base)
      (fun t => (t.xs.r0, t.pc)) =
      some (0xAB03, 0x0101) := by decide
theorem test_ori_keeps_high :
    ran 0x40FF (regs 0x4000 0x0000 0x0000 base)
      (fun t => (t.xs.r0, t.pc)) =
      some (0x40FF, 0x0101) := by decide
theorem test_nori :
    ran 0x480F (regs 0xAB30 0x0000 0x0000 base)
      (fun t => (t.xs.r0, t.pc)) =
      some (0xABC0, 0x0101) := by decide
theorem test_nori_keeps_high :
    ran 0x4800 (regs 0x0000 0x0000 0x0000 base)
      (fun t => (t.xs.r0, t.pc)) =
      some (0x00FF, 0x0101) := by decide
theorem test_xori :
    ran 0x50FF (regs 0xAB0F 0x0000 0x0000 base)
      (fun t => (t.xs.r0, t.pc)) =
      some (0xABF0, 0x0101) := by decide
theorem test_add_signed_wrap :
    ran 0x0828 (regs 0x0000 0x7FFF 0x0001 base)
      (fun t => (t.xs.r0, t.pc)) =
      some (0x8000, 0x0101) := by decide
theorem test_sub :
    ran 0x0829 (regs 0x0000 0x0000 0x0001 base)
      (fun t => (t.xs.r0, t.pc)) =
      some (0xFFFF, 0x0101) := by decide
theorem test_sub_signed_wrap :
    ran 0x0829 (regs 0x0000 0x8000 0x0001 base)
      (fun t => (t.xs.r0, t.pc)) =
      some (0x7FFF, 0x0101) := by decide
theorem test_addc_carry :
    ran 0x0A06 (regs 0xFFFF 0x0001 0x0000 base)
      (fun t => (t.xs.r2, t.pc)) =
      some (0x0001, 0x0101) := by decide
theorem test_addc_no_carry :
    ran 0x0A06 (regs 0x7FFF 0x0001 0x0000 base)
      (fun t => (t.xs.r2, t.pc)) =
      some (0x0000, 0x0101) := by decide
theorem test_subc_borrow :
    ran 0x082B (regs 0x0000 0x0000 0x0001 base)
      (fun t => (t.xs.r0, t.pc)) =
      some (0x0001, 0x0101) := by decide
theorem test_subc_equal :
    ran 0x082B (regs 0x0000 0x0005 0x0005 base)
      (fun t => (t.xs.r0, t.pc)) =
      some (0x0000, 0x0101) := by decide
theorem test_inci_wraps :
    ran 0x2901 (regs 0x0000 0xFFFF 0x0000 base)
      (fun t => (t.xs.r1, t.pc)) =
      some (0x0000, 0x0101) := by decide
theorem test_inci_unsigned :
    ran 0x29FF (regs 0x0000 0x0001 0x0000 base)
      (fun t => (t.xs.r1, t.pc)) =
      some (0x0100, 0x0101) := by decide
theorem test_deci :
    ran 0x31FF (regs 0x0000 0x0100 0x0000 base)
      (fun t => (t.xs.r1, t.pc)) =
      some (0x0001, 0x0101) := by decide
theorem test_deci_wraps :
    ran 0x3604 (base.setReg .r6 2)
      (fun t => (t.xs.r6, t.pc)) =
      some (0xFFFE, 0x0101) := by decide
theorem test_shl_same :
    ran 0x1124 (regs 0x0000 0x0003 0x0000 base)
      (fun t => (t.xs.r1, t.pc)) =
      some (0x0018, 0x0101) := by decide
theorem test_shl_16 :
    ran 0x1028 (regs 0x0000 0xFFFF 0x0010 base)
      (fun t => (t.xs.r0, t.pc)) =
      some (0x0000, 0x0101) := by decide
theorem test_shr :
    ran 0x1029 (regs 0x0000 0x8001 0x0004 base)
      (fun t => (t.xs.r0, t.pc)) =
      some (0x0800, 0x0101) := by decide
theorem test_shr_65535 :
    ran 0x1029 (regs 0x0000 0xFFFF 0xFFFF base)
      (fun t => (t.xs.r0, t.pc)) =
      some (0x0000, 0x0101) := by decide
theorem test_shra :
    ran 0x102A (regs 0x0000 0x8001 0x0004 base)
      (fun t => (t.xs.r0, t.pc)) =
      some (0xF800, 0x0101) := by decide
theorem test_shra_16 :
    ran 0x102A (regs 0x0000 0x8000 0x0010 base)
      (fun t => (t.xs.r0, t.pc)) =
      some (0xFFFF, 0x0101) := by decide
theorem test_shli :
    ran 0x5804 (regs 0x0FFF 0x0000 0x0000 base)
      (fun t => (t.xs.r0, t.pc)) =
      some (0xFFF0, 0x0101) := by decide
theorem test_shli_15 :
    ran 0x580F (regs 0x0001 0x0000 0x0000 base)
      (fun t => (t.xs.r0, t.pc)) =
      some (0x8000, 0x0101) := by decide
theorem test_shri :
    ran 0x6004 (regs 0xF00F 0x0000 0x0000 base)
      (fun t => (t.xs.r0, t.pc)) =
      some (0x0F00, 0x0101) := by decide
theorem test_shri_15 :
    ran 0x600F (regs 0x8000 0x0000 0x0000 base)
      (fun t => (t.xs.r0, t.pc)) =
      some (0x0001, 0x0101) := by decide
theorem test_shrai :
    ran 0x6804 (regs 0xF00F 0x0000 0x0000 base)
      (fun t => (t.xs.r0, t.pc)) =
      some (0xFF00, 0x0101) := by decide
theorem test_shrai_15 :
    ran 0x680F (regs 0x7FFF 0x0000 0x0000 base)
      (fun t => (t.xs.r0, t.pc)) =
      some (0x0000, 0x0101) := by decide
theorem test_lhswp :
    ran 0x7000 (regs 0x12AB 0x0000 0x0000 base)
      (fun t => (t.xs.r0, t.pc)) =
      some (0xAB12, 0x0101) := by decide
theorem test_li :
    ran 0x18F0 (regs 0xFFFF 0x0000 0x0000 base)
      (fun t => (t.xs.r0, t.pc)) =
      some (0x00F0, 0x0101) := by decide
theorem test_shlli :
    ran 0x200D (regs 0x00F0 0x0000 0x0000 base)
      (fun t => (t.xs.r0, t.pc)) =
      some (0xF00D, 0x0101) := by decide
theorem test_shlli_loses_high :
    ran 0x2000 (regs 0x1240 0x0000 0x0000 base)
      (fun t => (t.xs.r0, t.pc)) =
      some (0x4000, 0x0101) := by decide
theorem test_ba_back : ran 0x7C00 (base.jump 0x0010) (fun t => t.pc) = some 0xFC10 := by decide
theorem test_ba_wraps : ran 0x7801 (base.jump 0xFFFF) (fun t => t.pc) = some 0x0000 := by decide
theorem test_bal : ran 0x8003 (base.jump 0x0003) (fun t => (t.xs.r7, t.pc)) = some (0x0004, 0x0006) := by decide
theorem test_bal_wraps : ran 0x8000 (base.jump 0xFFFF) (fun t => (t.xs.r7, t.pc)) = some (0x0000, 0xFFFF) := by decide
theorem test_bz_taken : ran 0x89FD (base.jump 0x0005) (fun t => t.pc) = some 0x0002 := by decide
theorem test_bz_not_taken : ran 0x89FD ((regs 0 0x8000 0 base).jump 0x0005) (fun t => t.pc) = some 0x0006 := by decide
theorem test_bnz_taken : ran 0x91FE ((regs 0 1 0 base).jump 0x0004) (fun t => t.pc) = some 0x0002 := by decide
theorem test_bnz_not_taken : ran 0x91FE (base.jump 0x0004) (fun t => t.pc) = some 0x0005 := by decide
theorem test_jr : ran 0x9BFF (base.jump 0x0008) (fun t => t.pc) = some 0xFFFF := by decide
theorem test_jr_forward : ran 0x9B7F ((base.setReg .r3 0x1000).jump 0x0008) (fun t => t.pc) = some 0x107F := by decide
theorem test_jlr :
    ran 0xA3FF ((base.setReg .r3 0x0200).jump 0x0010)
      (fun t => (t.xs.r7, t.pc)) =
      some (0x0011, 0x01FF) := by decide
theorem test_jlr_old_r7 :
    ran 0xA702 ((base.setReg .r7 0x0300).jump 0x0010)
      (fun t => (t.xs.r7, t.pc)) =
      some (0x0011, 0x0302) := by decide

/-- Data memory that refuses every access (D2). -/
def refusing (s : State) : State := { s with dfaults := [⟨0x0000, 0xFFFF⟩], dfaulthdl := 0x0040 }

theorem test_ldw :
    ran 0xA910 ((regs 8 0 0 base).storeWord 0xFFF8 0x1234)
      (fun t => (t.xs.r1, t.status.toWord)) =
      some (0x1234, 0x1000) := by decide
theorem test_ldw_fault :
    ran 0xA904 (refusing (withStatus 0xC000 { base with epc := 0x0011, xu := { zeroBank with r0 := 0xF00D, r1 := 0x7777 } }))
      (fun t => ((t.xu.r1, t.pc), (t.epc, t.epcSaved, t.status.toWord))) =
      some ((0x7777, 0x0040), (0x0100, 0x0011, 0x2000)) := by decide
theorem test_stw :
    ran 0xB104 (withStatus 0x1000 (regs 0xF00D 0x0100 0 base))
      (fun t => (t.loadWord 0xF011, t.status.toWord)) =
      some (0x0100, 0x0000) := by decide
theorem test_stw_fault :
    ran 0xB104 (refusing (withStatus 0x1000 (regs 0xF00D 0x0100 0 base)))
      (fun t => ((t.loadWord 0xF011, t.pc), (t.epc, t.status.toWord))) =
      some ((0x0000, 0x0040), (0x0100, 0x0000)) := by decide
theorem test_sc :
    ran 0xC000 (withStatus 0x1000 (regs 0x0020 0 0 base))
      (fun t => (t.xs.r0, t.loadWord 0x0020, t.status.toWord)) =
      some (0x0001, 0x0020, 0x0000) := by decide

/-- A boundary that draws 0x1234 for a coprocessor read. -/
def drawing : Boundary := { quietBoundary with draws := { quietBoundary.draws with cvali := 0x1234 } }

theorem test_mfcp :
    ran 0xC943 (withStatus 0xC000 { base with umcpen := 4, inputs := [drawing] })
      (fun t => (t.xu.r1, t.events.head?)) =
      some (0x1234, some (.cpRead .cp2 3)) := by decide
theorem test_mfcp_denied :
    ran 0xC943 (withStatus 0xC000 { base with umcpen := 0x00FB, illophdl := 0x0030 })
      (fun t => (t.epc, t.pc, t.status.toWord)) =
      some (0x0100, 0x0030, 0x2000) := by decide
theorem test_mtcp :
    ran 0xD143 (regs 0 0xBEEF 0 base)
      (fun t => t.events.head?) =
      some (some (.cpWrite .cp2 3 0xBEEF)) := by decide
theorem test_mtcp_denied :
    ran 0xD1FF (withStatus 0x8000 { base with umcpen := 0x007F, illophdl := 0x0030 })
      (fun t => (t.epc, t.pc, t.status.toWord)) =
      some (0x0100, 0x0030, 0x2000) := by decide
theorem test_cpop : ran 0xD940 (regs 0 7 0 base) (fun t => t.events.head?) = some (some (.cpExec .cp2 7)) := by decide
theorem test_mfctl_bank :
    ran 0xF203 ({ base with xu := { zeroBank with r3 := 0x0077 } })
      (fun t => (t.xs.r2, t.pc)) =
      some (0x0077, 0x0101) := by decide
theorem test_mtctl_status :
    ran 0xF80A (regs 0x8000 0 0 base)
      (fun t => (t.status.toWord, t.pc)) =
      some (0x8000, 0x0101) := by decide
theorem test_mtctl_iack :
    ran 0xF81A (regs 0x0010 0 0 base)
      (fun t => t.events.head?) =
      some (some (.ack 0x10)) := by decide
theorem test_int :
    ran 0xE123 (withStatus 0xC000 { base with pc := 0x000B, swihdl := 0x0010 })
      (fun t => (t.epc, t.pc, t.status.toWord)) =
      some (0x000C, 0x0010, 0x2123) := by decide
theorem test_int_moves_u :
    ran 0xE000 (withStatus 0x67FF { base with pc := 0x0020, swihdl := 0x0010 })
      (fun t => (t.epc, t.pc, t.status.toWord)) =
      some (0x0021, 0x0010, 0x0800) := by decide
theorem test_rfi :
    ran 0xE800 (withStatus 0x0800 { base with epc := 0x0100, epcSaved := 0x0200 })
      (fun t => (t.epc, t.pc, t.status.toWord)) =
      some (0x0200, 0x0100, 0x6800) := by decide
theorem test_rfi_user :
    ran 0xE800 (withStatus 0xC000 { base with epc := 0x0123, privophdl := 0x0050 })
      (fun t => ((t.epc, t.epcSaved), (t.pc, t.status.toWord))) =
      some ((0x0100, 0x0123), (0x0050, 0x2000)) := by decide

/-! ## Exceptions of the step itself -/

/-- A boundary with these pins. -/
def pins (irq : Half) : Boundary := { quietBoundary with draws := { quietBoundary.draws with irq := irq } }

theorem test_unassigned :
    ran 0x1003 (withStatus 0xC000 { base with illophdl := 0x0030 })
      (fun t => (t.epc, t.pc, t.status.toWord)) =
      some (0x0100, 0x0030, 0x2000) := by decide
theorem test_fetch_fault :
    ran 0x1801 ({ base with ifaulthdl := 0x0060, ifaults := [⟨0x0100, 0x0100⟩] })
      (fun t => (t.epc, t.pc, t.xs.r0)) =
      some (0x0100, 0x0060, 0x0000) := by decide
theorem test_highest_interrupt :
    ran 0x1801 (withStatus 0x4000 { base with ienable := 0x12, inputs := [pins 0x12], exihdl := { zeroHandlers with cp4 := 0x0070, cp1 := 0x0071 } })
      (fun t => (t.epc, t.pc, t.xs.r0)) =
      some (0x0100, 0x0070, 0x0000) := by decide
theorem test_masked_interrupt :
    ran 0x1801 (withStatus 0x4000 { base with ienable := 0xEF, inputs := [pins 0x10] })
      (fun t => (t.xs.r0, t.pc)) =
      some (0x0001, 0x0101) := by decide
/-- The high half is the scripted draw, zero here. -/
theorem test_pins_read :
    ran 0xF019 ({ base with inputs := [pins 0x90] })
      (fun t => (t.xs.r0, t.pc)) =
      some (0x0090, 0x0101) := by decide
/-- D7: with `OVERFLOW_TRAP`, the destination is kept and EPC is pc + 1. -/
theorem test_overflow_trap :
    ran 0x0828 ({ regs 0 0x7FFF 1 base with params := { Config.defaultParams with overflowTrap := true }, illophdl := 0x0030 })
      (fun t => ((t.xs.r0, t.pc), t.epc)) =
      some ((0x0000, 0x0030), 0x0101) := by decide
/-- R92: the link is cleared at the boundary, so the `sc` fails. -/
theorem test_llinval :
    ran 0xC104 (withStatus 0x1000 { base with inputs := [{ quietBoundary with draws := { quietBoundary.draws with llinval := true } }] })
      (fun t => (t.xs.r1, t.status.toWord)) =
      some (0x0000, 0x0000) := by decide

/-! ## Memory, and the NVRAM of R238 -/

theorem test_memory_form : Memory.write [(3, 1), (9, 2)] 5 7 = [(3, 1), (5, 7), (9, 2)] ∧
    Memory.write [(3, 1), (9, 2)] 9 4 = [(3, 1), (9, 4)] ∧ Memory.write [(3, 1), (9, 2)] 3 0 = [(9, 2)] ∧
    Memory.read [(3, 1), (9, 2)] 9 = 2 ∧ Memory.read [(3, 1), (9, 2)] 4 = 0 := by decide

/-- A device of 0x10004 words as coprocessor 5, holding 0x00AA at address 0x10003. -/
def device : Nvram :=
  { number := .cp5, size := 0x10004, status := 0, addrLo := 0, addrHi := 0, value := 0, int := false, pending := none,
    cells := [(0x10003, 0x00AA)] }

/-- R238: `cpop` of operation 0 starts a read; the pin rises at the boundary at which the device is done. -/
theorem test_nvram_read : ran 0xD8A0 ({ base with nvram := some { device with addrHi := 1, addrLo := 3 } })
    (fun t => t.nvram.map (fun d => (d.status, (d.advance .done).status, (d.advance .done).value, (d.advance .done).int)))
    = some (some (1, 2, 0x00AA, true)) := by decide

/-- R238: out of bounds is a read error. -/
theorem test_nvram_error : (Nvram.advance .done { device with addrHi := 1, addrLo := 4, pending := some .read }).status = 3 := by
  decide


/-! ## Witnesses: a state and operands that meet the hypotheses of each statement together -/

/-- The state at a word with one quiet boundary before it. -/
def placed (w : Word) : State := base.placeWord w

theorem witness_EncodeOfDecode : decode 0x0028 = .ok (.or .r0 .r1 .r2) := by decide

theorem witness_StepRunsTheDecodedInstruction : (placed 0x0B44).atBoundary.acceptedInterrupt = none ∧
    (placed 0x0B44).fetched.fetchAnswer = .answers ∧
    decode (placed 0x0B44).fetched.fetchedWord = .ok (.add .r3 .r2 .r1) := by decide

/-- Three words written by another master at the boundary, two of them at one address. -/
def shared : State :=
  { base with inputs := [{ quietBoundary with busWrites := [(0x0005, 1), (0x0009, 2), (0x0009, 3)] }] }

/-- An address not written, one written before others, one written twice; and a state with nothing scripted. -/
theorem witness_BoundaryLeavesTheCpuUnchanged :
    shared.inputs = { quietBoundary with busWrites := [(0x0005, 1), (0x0009, 2), (0x0009, 3)] } :: [] ∧
    (∀ p ∈ shared.sample.busWrites, p.1.toNat ≠ 0x0007) ∧
    (shared.sample.busWrites = [] ++ (0x0005, 1) :: [(0x0009, 2), (0x0009, 3)] ∧
      ∀ p ∈ [((0x0009 : Word), (2 : Word)), (0x0009, 3)], p.1 ≠ 0x0005) ∧
    shared.sample.busWrites = [(0x0005, 1), (0x0009, 2)] ++ (0x0009, 3) :: [] ∧ State.reset.inputs = [] :=
  ⟨rfl, by rw [show shared.sample.busWrites = [(0x0005, 1), (0x0009, 2), (0x0009, 3)] from rfl]; simp, ⟨rfl, by simp⟩, rfl, rfl⟩

/-- The three addresses after the boundary. -/
theorem test_foreign_writes : (shared.fetched.dmem.read 5, shared.fetched.dmem.read 9, shared.fetched.dmem.read 7) = (1, 3, 0) := by
  decide

theorem witness_FetchFaultTraps_refused :
    ({ base with ifaults := [⟨0x0100, 0x0100⟩] } : State).atBoundary.acceptedInterrupt = none ∧
    ({ base with ifaults := [⟨0x0100, 0x0100⟩] } : State).fetched.fetchAnswer = .refuses := by decide

theorem witness_FetchFaultTraps_silent :
    ({ base with inputs := [{ quietBoundary with instrBus := .silent }] } : State).atBoundary.acceptedInterrupt = none ∧
    ({ base with inputs := [{ quietBoundary with instrBus := .silent }] } : State).fetched.fetchAnswer = .silent := by decide

/-- No interrupt, and the fetch answered, at a word. -/
def fetches (w : Word) : Prop :=
  (placed w).atBoundary.acceptedInterrupt = none ∧ (placed w).fetched.fetchAnswer = .answers ∧ (placed w).fetched.fetchedWord = w

theorem witness_UnassignedWordTraps : (fetches 0x17FF ∧ (0x17FF : Word) &&& 0xf803 = 0x1003) ∧
    fetches 0xB800 ∧ (0xB800 : Word) &&& 0xf800 = 0xb800 :=
  ⟨⟨⟨by decide, by decide, by decide⟩, by decide⟩, ⟨by decide, by decide, by decide⟩, by decide⟩

/-- A must-be-zero word under each policy. -/
def withPolicy (p : Config.MbzPolicy) : State :=
  { placed 0xE801 with params := { Config.defaultParams with mbzPolicy := p } }

/-- The word's row and field, and the instruction with the field zero. -/
theorem witness_MustBeZeroWordsFollowThePolicy_word : decode 0xE801 = .mustBeZero .rfi ∧
    WellFormed.selects 0xE801 ⟨"rfi", 0xe800, 0xf800, 0x07ff⟩ = true ∧ (0xE801 : Word) &&& 0x07ff ≠ 0 ∧
    decode (0xE801 &&& ~~~0x07ff) = .ok .rfi := by decide

theorem witness_MustBeZeroWordsFollowThePolicy : ∀ p ∈ [Config.MbzPolicy.refuse, .ignore, .illegal],
    (withPolicy p).atBoundary.acceptedInterrupt = none ∧ (withPolicy p).fetched.fetchAnswer = .answers ∧
    decode (withPolicy p).fetched.fetchedWord = .mustBeZero .rfi ∧ (withPolicy p).params.mbzPolicy = p := by decide

/-- Interrupts enabled, every source enabled, these pins high. -/
def interrupted (irq : Half) : State := withStatus 0x4000 { base with ienable := 0x00FF, inputs := [pins irq] }

theorem witness_HighestDeliverableInterruptIsTaken_lowest : (interrupted 0x01).status.e = true ∧
    numberedBit (interrupted 0x01).ienable .cp0 = true ∧ (interrupted 0x01).atBoundary.pin .cp0 = true ∧
    ∀ m ∈ [CpNum.cp0, .cp1, .cp2, .cp3, .cp4, .cp5, .cp6, .cp7], CpNum.cp0.bits.toNat < m.bits.toNat →
      ¬ (numberedBit (interrupted 0x01).ienable m = true ∧ (interrupted 0x01).atBoundary.pin m = true) := by decide

theorem witness_HighestDeliverableInterruptIsTaken_highest : (interrupted 0xFF).status.e = true ∧
    numberedBit (interrupted 0xFF).ienable .cp7 = true ∧ (interrupted 0xFF).atBoundary.pin .cp7 = true ∧
    ∀ m : CpNum, ¬ CpNum.cp7.bits.toNat < m.bits.toNat := by
  refine ⟨by decide, by decide, by decide, fun m => by cases m <;> decide⟩

theorem witness_DisabledOrMaskedInterruptsAreNotTaken_disabled : (withStatus 0 (interrupted 0xFF)).status.e = false := by decide

theorem witness_DisabledOrMaskedInterruptsAreNotTaken_masked : (interrupted 0x00).status.e = true ∧
    ∀ n : CpNum, ¬ (numberedBit (interrupted 0x00).ienable n = true ∧ (interrupted 0x00).atBoundary.pin n = true) := by
  refine ⟨by decide, fun n => by cases n <;> decide⟩

/-- Nothing refuses a fetch at any scripted boundary. -/
theorem fetchable (k : Nat) (s : State) (hf : s.ifaults = []) (hi : ∀ b ∈ s.inputs, b.instrBus = .answers) :
    (s.idle k).fetched.fetchAnswer = .answers := by
  induction k generalizing s with
  | succ k ih => exact ih s.fetched hf (fun b hb => hi b (List.mem_of_mem_tail hb))
  | zero =>
    have hs : s.sample.instrBus = .answers := by
      unfold State.sample
      split
      case h_1 b bs h => exact hi b (by simp [h])
      case h_2 => rfl
    show controllerAnswer s.sample.instrBus s.ifaults s.pc = .answers
    rw [hs, hf]
    rfl

theorem witness_FinishedStateStays_disabled : (placed 0x7800).finished :=
  ⟨by decide, .inl (by decide), fun k => fetchable k _ rfl (by simp [placed, base, State.placeWord, quietBoundary])⟩

/-- Interrupts enabled by STATUS.E, and no source enabled in IENABLE. -/
theorem witness_FinishedStateStays_masked : (withStatus 0x4000 (placed 0x7800)).status.e = true ∧
    (withStatus 0x4000 (placed 0x7800)).finished := by
  refine ⟨by decide, by decide, .inr fun k n h => ?_,
    fun k => fetchable k _ rfl (by simp [withStatus, placed, base, State.placeWord, quietBoundary])⟩
  exact absurd h.1 (by cases n <;> decide)

/-- D21, "from then on": with the pins low now and high at the next boundary the run is not finished. -/
theorem test_finished_looks_ahead :
    ¬ (withStatus 0x4000 { placed 0x7800 with ienable := 0x0001, inputs := [pins 0x00, pins 0x01] }).finished := by
  rintro ⟨-, h | h, -⟩
  · exact absurd h (by decide)
  · exact h 1 .cp0 (by decide)

theorem witness_BitwiseThreeRegisterForms : opcodeOf 0x07FC = 0b00000 ∧ (0x07FC : Word).extractLsb' 0 2 = 0b00 ∧
    opcodeOf 0x07FD = 0b00000 ∧ (0x07FD : Word).extractLsb' 0 2 = 0b01 ∧
    opcodeOf 0x0002 = 0b00000 ∧ (0x0002 : Word).extractLsb' 0 2 = 0b10 ∧
    opcodeOf 0x0003 = 0b00000 ∧ (0x0003 : Word).extractLsb' 0 2 = 0b11 := by decide

theorem witness_BitwiseImmediateFormsKeepTheHighHalf : opcodeOf 0x38FD = 0b00111 ∧ opcodeOf 0x47FF = 0b01000 ∧
    opcodeOf 0x4800 = 0b01001 ∧ opcodeOf 0x57FF = 0b01010 := by decide

/-- `OVERFLOW_TRAP` true. -/
def trapping (s : State) : State := { s with params := { Config.defaultParams with overflowTrap := true } }

theorem witness_AddAndSub_encoding : opcodeOf 0x0B44 = 0b00001 ∧ (0x0B44 : Word).extractLsb' 0 2 = 0b00 ∧
    opcodeOf 0x0829 = 0b00001 ∧ (0x0829 : Word).extractLsb' 0 2 = 0b01 := by decide

/-- The clauses meet at 32767 and 32768, and at -32768 and -32769. -/
theorem witness_AddAndSub_bounds :
    base.params.overflowTrap = false ∧
    ((trapping (regs 0 0x7FFE 1 base)).reg .r1).toInt + ((trapping (regs 0 0x7FFE 1 base)).reg .r2).toInt = 32767 ∧
    ((trapping (regs 0 0x7FFF 1 base)).reg .r1).toInt + ((trapping (regs 0 0x7FFF 1 base)).reg .r2).toInt = 32768 ∧
    ((trapping (regs 0 0x8001 1 base)).reg .r1).toInt - ((trapping (regs 0 0x8001 1 base)).reg .r2).toInt = -32768 ∧
    ((trapping (regs 0 0x8000 1 base)).reg .r1).toInt - ((trapping (regs 0 0x8000 1 base)).reg .r2).toInt = -32769 := by decide

theorem witness_CarryAndBorrow : opcodeOf 0x0A06 = 0b00001 ∧ (0x0A06 : Word).extractLsb' 0 2 = 0b10 ∧
    opcodeOf 0x082B = 0b00001 ∧ (0x082B : Word).extractLsb' 0 2 = 0b11 := by decide

theorem witness_IncrementAndDecrement : opcodeOf 0x29FF = 0b00101 ∧ opcodeOf 0x3604 = 0b00110 := by decide

theorem witness_CarryCompletesTheSum : (regs 0xFFFF 1 0 base).params.overflowTrap = false ∧ Reg.r2 ≠ .r0 ∧ Reg.r2 ≠ .r1 ∧
    exec (.addc .r2 .r0 .r1) (regs 0xFFFF 1 0 base) = .next ((regs 0xFFFF 1 0 base).writeNext .r2 1) :=
  ⟨rfl, by decide, by decide, rfl⟩

theorem witness_ShiftsByARegister_encoding : opcodeOf 0x1124 = 0b00010 ∧ (0x1124 : Word).extractLsb' 0 2 = 0b00 ∧
    opcodeOf 0x1029 = 0b00010 ∧ (0x1029 : Word).extractLsb' 0 2 = 0b01 ∧
    opcodeOf 0x102A = 0b00010 ∧ (0x102A : Word).extractLsb' 0 2 = 0b10 := by decide

/-- `SHIFT_REG_AMOUNT` as given. -/
def amounts (p : Config.ShiftAmount) (n : Word) : State :=
  { regs 0 0x8001 n base with params := { Config.defaultParams with shiftAmount := p } }

theorem witness_ShiftsByARegister_clauses :
    (15 = ((amounts .refuse 15).reg .r2).toNat ∧ 15 < 16) ∧
    (65535 = ((amounts .full 65535).reg .r2).toNat ∧ (amounts .full 65535).params.shiftAmount = .full) ∧
    (0 = ((amounts .low4 16).reg .r2).toNat % 16 ∧ (amounts .low4 16).params.shiftAmount = .low4) ∧
    (16 ≤ ((amounts .refuse 16).reg .r2).toNat ∧ (amounts .refuse 16).params.shiftAmount = .refuse) := by decide

theorem witness_LongShiftsUnderFull : (amounts .full 16).params.shiftAmount = .full ∧
    16 ≤ ((amounts .full 16).reg .r2).toNat := by decide

theorem witness_ShiftsByAnImmediateAndSwap :
    ((0x5F0F : Word).extractLsb' 4 4 = 0 ∧ opcodeOf 0x5F0F = 0b01011) ∧
    ((0x6000 : Word).extractLsb' 4 4 = 0 ∧ opcodeOf 0x6000 = 0b01100) ∧
    ((0x680F : Word).extractLsb' 4 4 = 0 ∧ opcodeOf 0x680F = 0b01101) ∧
    ((0x7700 : Word).extractLsb' 0 8 = 0 ∧ opcodeOf 0x7700 = 0b01110) := by decide

theorem witness_BranchAlways : opcodeOf 0x7FFE = 0b01111 ∧ opcodeOf 0x8003 = 0b10000 := by decide

theorem witness_BranchOnZeroAndNonzero : opcodeOf 0x89FD = 0b10001 ∧ opcodeOf 0x9080 = 0b10010 := by decide

theorem witness_JumpToARegister : opcodeOf 0x9F00 = 0b10011 ∧ opcodeOf 0xA3FF = 0b10100 := by decide

theorem witness_ReturnFromBranchAndLink : exec (.bal 3) base = .next (base.linkAndJump 0x0103) ∧
    (base.linkAndJump 0x0103).reg .r7 = 0x0101 := ⟨rfl, by decide⟩

theorem witness_LoadImmediate : opcodeOf 0x18F0 = 0b00011 ∧ opcodeOf 0x200D = 0b00100 := by decide

/-- Data memory with this answer at the present boundary. -/
def answering (b : BusAnswer) : State := withStatus 0x1000 { base with now := { quietBoundary with dataBus := b } }

theorem witness_LoadWord : opcodeOf 0xA910 = 0b10101 ∧
    (answering .answers).dataAnswer ((answering .answers).dataAddress .r0 (-16)) = .answers ∧
    (answering .refuses).dataAnswer ((answering .refuses).dataAddress .r0 15) = .refuses ∧
    (answering .silent).dataAnswer ((answering .silent).dataAddress .r0 0) = .silent := by decide

theorem witness_StoreWord : opcodeOf 0xB104 = 0b10110 ∧
    (answering .answers).dataAnswer ((answering .answers).dataAddress .r0 (-16)) = .answers ∧
    (refusing base).dataAnswer ((refusing base).dataAddress .r0 (-1)) = .refuses ∧
    (answering .silent).dataAnswer ((answering .silent).dataAddress .r0 0) = .silent := by decide

theorem witness_StoreConditional : opcodeOf 0xC104 = 0b11000 ∧ base.status.l = false ∧
    ((answering .answers).status.l = true ∧
      (answering .answers).dataAnswer ((answering .answers).dataAddress .r0 4) = .answers) ∧
    ((answering .refuses).status.l = true ∧
      (answering .refuses).dataAnswer ((answering .refuses).dataAddress .r0 4) = .refuses) ∧
    ((answering .silent).status.l = true ∧
      (answering .silent).dataAnswer ((answering .silent).dataAddress .r0 4) = .silent) := by decide

/-- The state after a completed `ldw R1, R0, #4` at `base`. -/
def afterLoad : State := ((base.emit (.dataRead 4)).setLink true).writeNext .r1 0

theorem witness_LinkCarriesNoAddress : base.dataAnswer (base.dataAddress .r0 4) = .answers ∧
    exec (.ldw .r1 .r0 4) base = .next afterLoad ∧
    afterLoad.dataAnswer (afterLoad.dataAddress .r0 (-1)) = .answers := ⟨by decide, rfl, by decide⟩

/-- A link, an `sc` at `pc`, and LLINVAL at the boundary. -/
def invalidated : State :=
  withStatus 0x1000 { placed 0xC104 with inputs := [{ quietBoundary with draws := { quietBoundary.draws with llinval := true } }] }

theorem witness_LlinvalMakesStoreConditionalFail : invalidated.sample.draws.llinval = true ∧
    invalidated.runs (.sc .r1 .r0 4) := ⟨by decide, by decide, by decide, .inl (by decide)⟩

/-- The link set, and a word at `pc`. -/
def linked (w : Word) : State := withStatus 0x1000 (placed w)

theorem witness_WhatClearsTheLink_stw : (linked 0xB104).fetched.status.l = true ∧
    stepped (linked 0xB104) (fun t => t.status.l) = some false := by decide

theorem witness_WhatClearsTheLink_sc : (linked 0xC104).fetched.status.l = true ∧
    stepped (linked 0xC104) (fun t => t.status.l) = some false := by decide

theorem witness_WhatClearsTheLink_mtctl : (linked 0xF80A).fetched.status.l = true ∧
    stepped (linked 0xF80A) (fun t => t.status.l) = some false := by decide

/-- The load at whose refusal the link is cleared. -/
theorem witness_WhatClearsTheLink_refused : (refusing (linked 0xA904)).fetched.status.l = true ∧
    stepped (refusing (linked 0xA904)) (fun t => t.status.l) = some false := by decide

/-- The state after a completed `stw R1, R0, #4` at `base` with R1 = 7. -/
def afterStore : State :=
  ((((regs 0 7 0 base).emit (.dataWrite 4 7)).setLink false).storeWord 4 7).advance

theorem witness_LoadAfterStore :
    (regs 0 7 0 base).dataAnswer ((regs 0 7 0 base).dataAddress .r0 4) = .answers ∧
    exec (.stw .r1 .r0 4) (regs 0 7 0 base) = .next afterStore ∧
    afterStore.dataAnswer (afterStore.dataAddress .r0 4) = .answers ∧
    afterStore.dataAnswer (afterStore.dataAddress .r0 5) = .answers := ⟨by decide, rfl, by decide, by decide⟩

/-- User mode, with coprocessors 0 and 7 enabled or none. -/
def user (umcpen : Word) : State := withStatus 0x8000 { base with umcpen := umcpen }

theorem witness_CoprocessorAccess : opcodeOf 0xC943 = 0b11001 ∧ opcodeOf 0xD1FF = 0b11010 ∧
    (opcodeOf 0xD940 = 0b11011 ∧ (0xD940 : Word).extractLsb' 0 5 = 0) ∧ base.status.m = false ∧
    numberedBit (user 0x0081).umcpen .cp0 = true ∧ numberedBit (user 0x0081).umcpen .cp7 = true ∧
    base.nvram = none := by decide

theorem witness_DeniedCoprocessorAccessTraps : (user 0xFF7E).status.m = true ∧
    numberedBit (user 0xFF7E).umcpen .cp0 = false ∧ numberedBit (user 0xFF7E).umcpen .cp7 = false := by decide

theorem witness_MoveFromControl : (opcodeOf 0xF208 = 0b11110 ∧ (0xF208 : Word).extractLsb' 5 3 = 0) ∧
    base.status.m = false := by decide

theorem witness_MoveToControl : (opcodeOf 0xF81A = 0b11111 ∧ (0xF81A : Word).extractLsb' 5 3 = 0) ∧
    base.status.m = false := by decide

theorem witness_PrivilegedInstructionsTrapInUserMode : (user 0).status.m = true := by decide

theorem witness_SoftwareInterrupt : opcodeOf 0xE123 = 0b11100 := by decide

theorem witness_ReturnFromInterrupt : base.status.m = false ∧ (user 0).status.m = true := by decide

/-- The handler of a first trap, right after its entry from user mode. -/
def handling : State := (user 0).raise (.softwareInterrupt 5)

theorem witness_TwoNestedTrapsUnwind : handling.epc = ((user 0).raise (.softwareInterrupt 5)).epc ∧
    handling.status.u = ((user 0).raise (.softwareInterrupt 5)).status.u ∧ handling.status.m = false := by decide

/-- Both ways to user mode: an `rfi` with U set, and an `mtctl` of 0x8000 to STATUS. -/
theorem witness_ModeChangesOnlyAsListed_to_user :
    (∀ s ∈ [withStatus 0x2000 (placed 0xE800), regs 0x8000 0 0 (placed 0xF80A)], s.status.m = false ∧
      stepped s (fun t => t.status.m) = some true) := by decide

/-- A step from user mode that traps, and one that does not. -/
def userAt (w : Word) : State := withStatus 0x8000 (placed w)

theorem witness_ModeChangesOnlyAsListed_to_supervisor : (userAt 0xE005).status.m = true ∧
    stepped (userAt 0xE005) (fun t => t.status.m) = some false := by decide

theorem witness_UserStepKeepsSupervisorState : (userAt 0x1801).status.m = true ∧
    stepped (userAt 0x1801) (fun t => (t.status.m, t.xu.r0)) = some (true, 1) := by decide

theorem witness_UserInstructionsReadNoSecret : (user 0).status.m = true ∧
    exec (.li .r0 1) (user 0) = .next ((user 0).writeNext .r0 1) ∧ ((user 0).writeNext .r0 1).status.m = true :=
  ⟨by decide, rfl, by decide⟩

theorem witness_StepKeepsMemoryForm : (placed 0xB104).wf ∧
    stepped (placed 0xB104) (fun t => t.pc) = some 0x0101 :=
  ⟨⟨by decide, by decide, fun _ h => nomatch h⟩, by decide⟩

theorem witness_StepNeverWritesInstructionMemory :
    stepped (placed 0xB104) (fun t => t.pc) = some 0x0101 := by decide

theorem witness_DataMemoryChangesOnlyByStores :
    stepped ((placed 0xB104).setReg .r1 7) (fun t => t.dmem.read 4) = some 7 ∧
    ((placed 0xB104).setReg .r1 7).fetched.dmem.read 4 = 0 := by decide

/-- The parameters that refuse nothing. -/
def permissive : State :=
  { base with params := { Config.defaultParams with mbzPolicy := .illegal } }

theorem witness_EveryStepHasANextState : permissive.busesAnswer ∧ permissive.nothingRefused := by
  unfold State.busesAnswer State.nothingRefused; decide

/-- The last address in bounds, and the first out of bounds, of `device`. -/
theorem witness_NvramProcedures : (1#16).toNat * 2 ^ 16 + (3#16).toNat < device.size ∧
    device.cells.read ((1#16).toNat * 2 ^ 16 + (3#16).toNat) = 0x00AA ∧
    device.size ≤ (1#16).toNat * 2 ^ 16 + (4#16).toNat := by decide

theorem witness_NvramIsReachedByCoprocessorInstructions : ({ base with nvram := some device } : State).nvram = some device ∧
    base.status.m = false ∧ numberedBit (user 0x0020).umcpen device.number = true := by decide

/-! ## The values of R238's procedures, worked by hand from the rule -/

theorem test_nvram_write : ((((device.writeReg 1 3).writeReg 2 1).writeReg 3 9).execute 1 0 |>.advance .done).cells =
    [(0x10003, 9)] := by decide

end Sys2Proof.Tests
end

section
/-! PROOFS. Privilege separation (spec/10_state.md R23, 60_exceptions.md R221): what a step from user mode leaves unchanged,
and what an instruction that completes in user mode cannot read. -/

namespace Sys2Proof.Machine

/-! ## What user mode leaves unchanged -/

/-- What user mode may not change (R23, R221): the supervisor bank, the handler registers, IENABLE and UMCPEN, and where no
trap is taken also EPC, EPCSAVED and all of STATUS but the link state. It composes (`UserFrame.trans`), so a meaning's frame
is put together from the frames of the operations it is made of. -/
structure State.UserFrame (s t : State) : Prop where
  xs : t.xs = s.xs
  ifaulthdl : t.ifaulthdl = s.ifaulthdl
  dfaulthdl : t.dfaulthdl = s.dfaulthdl
  swihdl : t.swihdl = s.swihdl
  illophdl : t.illophdl = s.illophdl
  privophdl : t.privophdl = s.privophdl
  exihdl : t.exihdl = s.exihdl
  ienable : t.ienable = s.ienable
  umcpen : t.umcpen = s.umcpen
  completed : t.status.m = true →
    t.epc = s.epc ∧ t.epcSaved = s.epcSaved ∧ t.status = { s.status with l := t.status.l }

namespace State.UserFrame

/-- A state still in user mode at the end was in user mode in between, since the second frame keeps STATUS.M. -/
theorem trans {s u t : State} (hsu : s.UserFrame u) (hut : u.UserFrame t) : s.UserFrame t where
  xs := hut.xs.trans hsu.xs
  ifaulthdl := hut.ifaulthdl.trans hsu.ifaulthdl
  dfaulthdl := hut.dfaulthdl.trans hsu.dfaulthdl
  swihdl := hut.swihdl.trans hsu.swihdl
  illophdl := hut.illophdl.trans hsu.illophdl
  privophdl := hut.privophdl.trans hsu.privophdl
  exihdl := hut.exihdl.trans hsu.exihdl
  ienable := hut.ienable.trans hsu.ienable
  umcpen := hut.umcpen.trans hsu.umcpen
  completed ht := by
    obtain ⟨hepc, hsaved, hstatus⟩ := hut.completed ht
    have hu : u.status.m = true := by rwa [hstatus] at ht
    obtain ⟨hepc', hsaved', hstatus'⟩ := hsu.completed hu
    refine ⟨hepc.trans hepc', hsaved.trans hsaved', ?_⟩
    rw [hstatus, hstatus']

variable (s : State)

theorem jump (target : Word) : s.UserFrame (s.jump target) := by constructor <;> simp

theorem advance : s.UserFrame s.advance := jump s _

theorem setLink (b : Bool) : s.UserFrame (s.setLink b) := by constructor <;> simp

theorem emit (e : Event) : s.UserFrame (s.emit e) := by constructor <;> simp

theorem storeWord (a v : Word) : s.UserFrame (s.storeWord a v) := by constructor <;> simp

theorem cpWrite (n : CpNum) (r : BitVec 5) (v : Word) : s.UserFrame (s.cpWrite n r v) := by constructor <;> simp

theorem cpExec (n : CpNum) (v : Word) : s.UserFrame (s.cpExec n v) := by constructor <;> simp

theorem atBoundary : s.UserFrame s.atBoundary := by constructor <;> simp

theorem fetched : s.UserFrame s.fetched := (atBoundary s).trans (emit _ _)

/-- A trap leaves user mode, so only the registers no trap writes are owed (R215). -/
theorem raise (c : Cause) : s.UserFrame (s.raise c) := by constructor <;> simp

variable {s}

/-- In user mode a register write goes to the user bank (R21). -/
theorem setReg (hm : s.status.m = true) (r : Reg) (v : Word) : s.UserFrame (s.setReg r v) := by
  constructor
  case xs => simp [hm]
  all_goals simp

theorem writeNext (hm : s.status.m = true) (r : Reg) (v : Word) : s.UserFrame (s.writeNext r v) :=
  (setReg hm r v).trans (advance _)

theorem linkAndJump (hm : s.status.m = true) (target : Word) : s.UserFrame (s.linkAndJump target) :=
  (setReg hm .r7 _).trans (jump _ target)

/-- Every instruction keeps the frame in user mode: the two ways of writing privileged state, `mtctl` and `rfi`, are closed
there (R208). -/
theorem of_exec {i : Instr} {t : State} (hm : s.status.m = true) (h : exec i s = .next t) : s.UserFrame t := by
  cases exec_did h with
  | wrote d v h => exact h ▸ writeNext hm d v
  | jumped p h => exact h ▸ jump s p
  | linked p h => exact h ▸ linkAndJump hm p
  | trapped c _ h => exact h ▸ raise s c
  | loaded v a off _ _ h =>
    exact h ▸ ((emit s _).trans (setLink _ _)).trans (writeNext (by simp [hm]) _ _)
  | loadFaulted v a off _ _ h => exact h ▸ ((emit s _).trans (setLink _ _)).trans (raise _ _)
  | stored v a off _ _ h => exact h ▸ (((emit s _).trans (setLink _ _)).trans (storeWord _ _ _)).trans (advance _)
  | storeFaulted v a off _ _ h => exact h ▸ ((emit s _).trans (setLink _ _)).trans (raise _ _)
  | storedConditionally v a off _ _ _ h =>
    exact h ▸ (((emit s _).trans (storeWord _ _ _)).trans (setLink _ _)).trans (writeNext (by simp [hm]) _ _)
  | conditionalFaulted v a off _ _ _ h => exact h ▸ (emit s _).trans (raise _ _)
  | readCoprocessor d n r _ _ h => exact h ▸ (emit s _).trans (writeNext (by simp [hm]) _ _)
  | wroteCoprocessor src n r _ _ h => exact h ▸ (cpWrite s _ _ _).trans (advance _)
  | executedCoprocessor p n _ _ h => exact h ▸ (cpExec s _ _).trans (advance _)
  | wroteControl src c _ hsup _ => simp [hm] at hsup
  | returned _ hsup _ => simp [hm] at hsup

/-- Every step from user mode keeps the frame, by the four ways a step can go (R212). -/
theorem of_step {t : State} (hm : s.status.m = true) (h : step s = .next t) : s.UserFrame t := by
  rcases step_next h with ⟨n, _, ht⟩ | ⟨_, ht | ht⟩ | ⟨i, _, hi⟩
  · exact ht ▸ (atBoundary s).trans (raise _ _)
  · exact ht ▸ (fetched s).trans (raise _ _)
  · exact ht ▸ (fetched s).trans (raise _ _)
  · exact (fetched s).trans (of_exec (by simpa using hm) hi)

end State.UserFrame

/-- Settles O49: the frame of a step from user mode, field by field. -/
theorem userStepKeepsSupervisorState : Obligations.UserStepKeepsSupervisorState := by
  intro s t h hm
  have f := State.UserFrame.of_step hm h
  exact ⟨f.xs, f.ifaulthdl, f.dfaulthdl, f.swihdl, f.illophdl, f.privophdl, f.exihdl, f.ienable, f.umcpen, f.completed⟩

/-! ## What user mode cannot read -/

section Secrets

variable {s : State} (o : State)

/-- In user mode a register is read from the user bank (R21), which is no secret. -/
@[simp] theorem State.reg_withSecretsOf (hm : s.status.m = true) (r : Reg) : (s.withSecretsOf o).reg r = s.reg r := by
  simp [State.reg, State.withSecretsOf, hm]

@[simp] theorem State.setReg_withSecretsOf (hm : s.status.m = true) (r : Reg) (v : Word) :
    (s.withSecretsOf o).setReg r v = (s.setReg r v).withSecretsOf o := by
  simp [State.setReg, State.withSecretsOf, hm]

@[simp] theorem State.writeNext_withSecretsOf (hm : s.status.m = true) (r : Reg) (v : Word) :
    (s.withSecretsOf o).writeNext r v = (s.writeNext r v).withSecretsOf o :=
  congrArg State.advance (State.setReg_withSecretsOf o hm r v)

@[simp] theorem State.linkAndJump_withSecretsOf (hm : s.status.m = true) (target : Word) :
    (s.withSecretsOf o).linkAndJump target = (s.linkAndJump target).withSecretsOf o :=
  congrArg (State.jump · target) (State.setReg_withSecretsOf o hm .r7 _)

@[simp] theorem State.dataAddress_withSecretsOf (hm : s.status.m = true) (a : Reg) (off : BitVec 5) :
    (s.withSecretsOf o).dataAddress a off = s.dataAddress a off :=
  congrArg (offsetFrom · off) (State.reg_withSecretsOf o hm a)

@[simp] theorem State.withSecretsOf_params : (s.withSecretsOf o).params = s.params := rfl

@[simp] theorem State.dataAnswer_withSecretsOf (a : Word) : (s.withSecretsOf o).dataAnswer a = s.dataAnswer a := rfl
@[simp] theorem State.loadWord_withSecretsOf (a : Word) : (s.withSecretsOf o).loadWord a = s.loadWord a := rfl
@[simp] theorem State.coprocessorDenied_withSecretsOf (n : CpNum) :
    (s.withSecretsOf o).coprocessorDenied n = s.coprocessorDenied n := rfl
@[simp] theorem State.cpReadValue_withSecretsOf (n : CpNum) (r : BitVec 5) :
    (s.withSecretsOf o).cpReadValue n r = s.cpReadValue n r := rfl

@[simp] theorem State.jump_withSecretsOf (target : Word) :
    (s.withSecretsOf o).jump target = (s.jump target).withSecretsOf o := rfl
@[simp] theorem State.advance_withSecretsOf : (s.withSecretsOf o).advance = s.advance.withSecretsOf o := rfl
@[simp] theorem State.setLink_withSecretsOf (b : Bool) :
    (s.withSecretsOf o).setLink b = (s.setLink b).withSecretsOf o := rfl
@[simp] theorem State.emit_withSecretsOf (e : Event) : (s.withSecretsOf o).emit e = (s.emit e).withSecretsOf o := rfl
@[simp] theorem State.storeWord_withSecretsOf (a v : Word) :
    (s.withSecretsOf o).storeWord a v = (s.storeWord a v).withSecretsOf o := rfl
@[simp] theorem State.cpWrite_withSecretsOf (n : CpNum) (r : BitVec 5) (v : Word) :
    (s.withSecretsOf o).cpWrite n r v = (s.cpWrite n r v).withSecretsOf o := rfl
@[simp] theorem State.cpExec_withSecretsOf (n : CpNum) (v : Word) :
    (s.withSecretsOf o).cpExec n v = (s.cpExec n v).withSecretsOf o := rfl

theorem State.branchIf_withSecretsOf (c : Bool) (off : BitVec 8) :
    (s.withSecretsOf o).branchIf c off = (s.branchIf c off).withSecretsOf o := by
  cases c <;> rfl

end Secrets

/-- A value that, in user mode, does not depend on what `withSecretsOf` replaces. -/
def IndependentOfSecrets {α : Type} (value : State → α) : Prop :=
  ∀ s o : State, s.status.m = true → value (s.withSecretsOf o) = value s

/-- An update of the state that, in user mode, neither reads nor changes what `withSecretsOf` replaces. -/
def CommutesWithSecrets (update : State → State) : Prop :=
  ∀ s o : State, s.status.m = true → update (s.withSecretsOf o) = (update s).withSecretsOf o

/-- R23 and R221 for one meaning: where it completes in user mode, it does the same with any other secrets. -/
def ReadsNoSecret (meaning : State → Host.Outcome State Fault Refusal) : Prop :=
  ∀ s t o : State, s.status.m = true → meaning s = .next t → t.status.m = true →
    meaning (s.withSecretsOf o) = .next (t.withSecretsOf o)

namespace ReadsNoSecret

theorem next {update : State → State} (hu : CommutesWithSecrets update) : ReadsNoSecret (fun s => .next (update s)) := by
  intro s t o hm h _
  obtain rfl : update s = t := by simpa using h
  exact congrArg _ (hu s o hm)

/-- A trap reads a handler register, but it does not complete in user mode (R215). -/
theorem raise (c : Cause) : ReadsNoSecret (fun s => .next (s.raise c)) := by
  intro s t o _ h ht
  obtain rfl : s.raise c = t := by simpa using h
  simp at ht

/-- A choice by a condition that is no secret. -/
theorem ite {cond : State → Bool} {yes no : State → Host.Outcome State Fault Refusal}
    (hc : IndependentOfSecrets cond) (hyes : ReadsNoSecret yes) (hno : ReadsNoSecret no) :
    ReadsNoSecret (fun s => if cond s = true then yes s else no s) := by
  intro s t o hm h ht
  cases hs : cond s with
  | true => simpa [hc s o hm, hs] using hyes s t o hm (by simpa [hs] using h) ht
  | false => simpa [hc s o hm, hs] using hno s t o hm (by simpa [hs] using h) ht

theorem writeNext (d : Reg) {value : State → Word} (hv : IndependentOfSecrets value) :
    ReadsNoSecret (fun s => .next (s.writeNext d (value s))) :=
  .next fun s o hm => by rw [hv s o hm, State.writeNext_withSecretsOf o hm]

theorem jump {target : State → Word} (ht : IndependentOfSecrets target) :
    ReadsNoSecret (fun s => .next (s.jump (target s))) :=
  .next fun s o hm => by rw [ht s o hm, State.jump_withSecretsOf]

theorem linkAndJump {target : State → Word} (ht : IndependentOfSecrets target) :
    ReadsNoSecret (fun s => .next (s.linkAndJump (target s))) :=
  .next fun s o hm => by rw [ht s o hm, State.linkAndJump_withSecretsOf o hm]

theorem branchIf {cond : State → Bool} (hc : IndependentOfSecrets cond) (off : BitVec 8) :
    ReadsNoSecret (fun s => .next (s.branchIf (cond s) off)) :=
  .next fun s o hm => by rw [hc s o hm, State.branchIf_withSecretsOf]

theorem op3Trapping (overflows : Word → Word → Bool) (f : Word → Word → Word) (d a b : Reg) :
    ReadsNoSecret (op3Trapping overflows f d a b) :=
  .ite (fun s o hm => by simp [hm]) (.raise _) (.writeNext d fun s o hm => by simp [hm])

theorem shiftByReg (f : Word → Nat → Word) (d a b : Reg) : ReadsNoSecret (shiftByReg f d a b) := by
  intro s t o hm h _
  obtain ⟨n, hn, rfl⟩ := shiftByReg_next h
  simp [Machine.shiftByReg, hm, hn]

/-- A data access: where it is refused it traps, and the address, the answer and the completed state read no secret. -/
theorem access (a : Reg) (off : BitVec 5) {completed : State → State} (faulted : State → State)
    (hc : CommutesWithSecrets completed) :
    ReadsNoSecret (fun s => s.access (s.dataAddress a off) (completed s) (faulted s)) := by
  intro s t o hm h ht
  rcases State.access_next h with ⟨ha, rfl⟩ | ⟨_, rfl⟩
  · simp [State.access, hm, ha, hc s o hm]
  · simp at ht

theorem checked (n : CpNum) {completed : State → State} (hc : CommutesWithSecrets completed) :
    ReadsNoSecret (fun s => s.checked n (completed s)) :=
  .ite (fun s o _ => s.coprocessorDenied_withSecretsOf o n) (.raise _) (.next hc)

/-- A privileged instruction does not complete in user mode (R208). -/
theorem privileged (completed : State → State) : ReadsNoSecret (fun s => s.privileged (completed s)) := by
  intro s t o hm h ht
  rcases State.privileged_next h with ⟨_, rfl⟩ | ⟨hsup, _⟩
  · simp at ht
  · simp [hm] at hsup

theorem ldw (v a : Reg) (off : BitVec 5) : ReadsNoSecret (execLdw v a off) :=
  .access a off _ fun s o hm => by simp [hm]

theorem stw (v a : Reg) (off : BitVec 5) : ReadsNoSecret (execStw v a off) :=
  .access a off _ fun s o hm => by simp [hm]

theorem sc (v a : Reg) (off : BitVec 5) : ReadsNoSecret (execSc v a off) :=
  .ite (fun _ _ _ => rfl) (.access a off _ fun s o hm => by simp [hm]) (.next fun s o hm => by simp [hm])

/-- Every instruction, by the shared operation its meaning is made of. -/
theorem exec (i : Instr) : ReadsNoSecret (Machine.exec i) := by
  cases i with
  | or d a b | and d a b | nor d a b | xor d a b | addc d a b | subc d a b =>
    exact .writeNext d fun s o hm => by simp [hm]
  | add d a b | sub d a b => exact .op3Trapping _ _ d a b
  | shl d a b | shr d a b | shra d a b => exact .shiftByReg _ d a b
  | li r v | shlli r v | inci r v | deci r v | andi r v | ori r v | nori r v | xori r v | shli r v | shri r v
  | shrai r v | lhswp r => exact .writeNext r fun s o hm => by simp [hm]
  | ba off => exact .jump fun _ _ _ => rfl
  | jr r off => exact .jump fun s o hm => by rw [s.reg_withSecretsOf o hm]
  | bal off => exact .linkAndJump fun _ _ _ => rfl
  | jlr r off => exact .linkAndJump fun s o hm => by rw [s.reg_withSecretsOf o hm]
  | bz r off | bnz r off => exact .branchIf (fun s o hm => by rw [State.reg_withSecretsOf o hm]) off
  | ldw v a off => exact .ldw v a off
  | stw v a off => exact .stw v a off
  | sc v a off => exact .sc v a off
  | mfcp d n r => exact .checked n fun s o hm => by simp [hm]
  | mtcp src n r => exact .checked n fun s o hm => by simp [hm]
  | cpop p n => exact .checked n fun s o hm => by simp [hm]
  | int arg => exact .raise _
  | rfi => exact .privileged _
  | mfctl d c => exact .privileged _
  | mtctl src c => exact .privileged _

end ReadsNoSecret

/-- Settles O50: `ReadsNoSecret` of every instruction's meaning. -/
theorem userInstructionsReadNoSecret : Obligations.UserInstructionsReadNoSecret :=
  fun i => ReadsNoSecret.exec i

end Sys2Proof.Machine
end

section
/-! PROOFS. Data memory and the link state (spec/20_memory.md R74 to R92): what ldw, stw and sc do where the controller
answers, what can change a word of data memory, and what can clear the link. -/

namespace Sys2Proof.Machine

variable {s t : State}

/-! ## Answered accesses -/

theorem State.access_answers {addr : Word} (ha : s.dataAnswer addr = .answers) (completed faulted : State) :
    s.access addr completed faulted = .next completed := by
  simp [State.access, ha]

/-- R172, the answered case. -/
theorem exec_ldw_answers {v a : Reg} {off : BitVec 5} (ha : s.dataAnswer (s.dataAddress a off) = .answers) :
    exec (.ldw v a off) s = .next (((s.emit (.dataRead (s.dataAddress a off))).setLink true).writeNext v
      (s.loadWord (s.dataAddress a off))) :=
  State.access_answers ha _ _

/-- R173, the answered case. -/
theorem exec_stw_answers {v a : Reg} {off : BitVec 5} (ha : s.dataAnswer (s.dataAddress a off) = .answers) :
    exec (.stw v a off) s = .next (((s.emit (.dataWrite (s.dataAddress a off) (s.reg v))).setLink false).storeWord
      (s.dataAddress a off) (s.reg v)).advance :=
  State.access_answers ha _ _

/-- R174, the answered case with the link set. -/
theorem exec_sc_answers {v a : Reg} {off : BitVec 5} (hl : s.status.l = true)
    (ha : s.dataAnswer (s.dataAddress a off) = .answers) :
    exec (.sc v a off) s = .next ((((s.emit (.dataWrite (s.dataAddress a off) (s.reg v))).storeWord
      (s.dataAddress a off) (s.reg v)).setLink false).writeNext v 1) := by
  simp only [exec, execSc, hl, if_true, State.access_answers ha]

/-- R174 without the link: no access, whatever the controller would have answered. -/
theorem exec_sc_unlinked {v a : Reg} {off : BitVec 5} (hl : s.status.l = false) :
    exec (.sc v a off) s = .next (s.writeNext v 0) := by
  simp [exec, execSc, hl]

/-! ## What a step can do to data memory and to the link -/

/-- Beside the boundary, only an instruction changes data memory or the link: an interrupt, a fetch fault and an illegal
operation enter their trap and change neither (R91, R215). -/
theorem step_keeps_data_or_runs (h : step s = .next t) :
    (t.dmem = s.fetched.dmem ∧ t.status.l = s.fetched.status.l) ∨ ∃ i, s.runs i ∧ exec i s.fetched = .next t := by
  rcases step_next h with ⟨n, _, rfl⟩ | ⟨_, rfl | rfl⟩ | hran
  · exact .inl (by simp)
  · exact .inl (by simp)
  · exact .inl (by simp)
  · exact .inr hran

/-- R91 for one instruction: the four that leave a set link clear. -/
theorem exec_clears_link {i : Instr} (h : exec i s = .next t) (hs : s.status.l = true) (ht : t.status.l = false) :
    (∃ v a off, i = .stw v a off) ∨
    (∃ v a off, i = .ldw v a off ∧ s.dataAnswer (s.dataAddress a off) = .refuses) ∨
    (∃ v a off, i = .sc v a off ∧ s.dataAnswer (s.dataAddress a off) = .answers) ∨
    (∃ src, i = .mtctl src .status ∧ (s.reg src).getLsbD 12 = false) := by
  have kept (hk : t.status.l = s.status.l) : False := by simp [hk, hs] at ht
  cases exec_did h with
  | stored v a off hi _ _ | storeFaulted v a off hi _ _ => exact .inl ⟨v, a, off, hi⟩
  | loadFaulted v a off hi ha _ => exact .inr (.inl ⟨v, a, off, hi, ha⟩)
  | storedConditionally v a off hi _ ha _ => exact .inr (.inr (.inl ⟨v, a, off, hi, ha⟩))
  | wroteControl src c hi _ h =>
    by_cases hc : c = .status
    case pos =>
      subst hc h
      exact .inr (.inr (.inr ⟨src, hi, by simpa [Status.ofWord] using ht⟩))
    case neg => exact (kept (by simp [h, hc])).elim
  | loaded v a off _ _ h => simp [h] at ht
  | wrote d v h | jumped p h | linked p h | trapped c _ h | conditionalFaulted v a off _ _ _ h
  | readCoprocessor d n r _ _ h | wroteCoprocessor src n r _ _ h | executedCoprocessor p n _ _ h | returned _ _ h =>
    exact (kept (by simp [h])).elim

/-- R74 for one instruction: data memory is as it was, or an stw or an sc that had the link has written one word. -/
theorem exec_dmem {i : Instr} (h : exec i s = .next t) :
    t.dmem = s.dmem ∨
    ∃ v b off, (i = .stw v b off ∨ (i = .sc v b off ∧ s.status.l = true)) ∧
      t.dmem = s.dmem.write (s.dataAddress b off).toNat (s.reg v) := by
  cases exec_did h with
  | stored v b off hi _ h => exact .inr ⟨v, b, off, .inl hi, by simp [h]⟩
  | storedConditionally v b off hi hl _ h => exact .inr ⟨v, b, off, .inr ⟨hi, hl⟩, by simp [h]⟩
  | wrote d v h | jumped p h | linked p h | trapped c _ h | loaded v a off _ _ h | loadFaulted v a off _ _ h
  | storeFaulted v a off _ _ h | conditionalFaulted v a off _ _ _ h | readCoprocessor d n r _ _ h
  | wroteCoprocessor src n r _ _ h | executedCoprocessor p n _ _ h | wroteControl src c _ _ h | returned _ _ h =>
    exact .inl (by simp [h])

/-! ## The statements -/

/-- Settles O35: a step that runs no instruction keeps the link, and `exec_clears_link` lists the instructions. -/
theorem whatClearsTheLink : Obligations.WhatClearsTheLink := by
  intro s t h hs ht
  rcases step_keeps_data_or_runs h with ⟨_, hl⟩ | ⟨i, hr, hi⟩
  · exact absurd (hl.trans hs) (by simp [ht])
  · rcases exec_clears_link hi hs ht with
      ⟨v, a, off, rfl⟩ | ⟨v, a, off, rfl, ha⟩ | ⟨v, a, off, rfl, ha⟩ | ⟨src, rfl, hb⟩
    · exact .inl ⟨v, a, off, hr⟩
    · exact .inr (.inl ⟨v, a, off, hr, ha⟩)
    · exact .inr (.inr (.inl ⟨v, a, off, hr, ha⟩))
    · exact .inr (.inr (.inr ⟨src, hr, hb⟩))

/-- Settles O54: after the one write an instruction makes (`exec_dmem`), only the word at its address reads differently. -/
theorem dataMemoryChangesOnlyByStores : Obligations.DataMemoryChangesOnlyByStores := by
  intro s t a h hne
  rcases step_keeps_data_or_runs h with ⟨hd, _⟩ | ⟨i, hr, hi⟩
  · exact absurd (by rw [hd]) hne
  rcases exec_dmem hi with hd | ⟨v, b, off, hst, hd⟩
  · exact absurd (by rw [hd]) hne
  have ha : a = (s.fetched.dataAddress b off).toNat := by
    by_contra hother
    exact hne (by rw [hd, Memory.read_write, if_neg hother])
  refine ⟨v, b, off, ?_, ha, by rw [hd, Memory.read_write, if_pos ha]⟩
  rcases hst with rfl | ⟨rfl, hl⟩
  · exact .inl hr
  · exact .inr ⟨hr, hl⟩

/-- Settles O33: the ldw sets the link, the first sc stores and clears it, the second finds it clear. -/
theorem linkCarriesNoAddress : Obligations.LinkCarriesNoAddress := by
  intro v a v' a' off off' s t ha h ha'
  have ht : t.status.l = true := by
    rw [exec_ldw_answers ha, Host.Outcome.next.injEq] at h
    simp [← h]
  refine ⟨_, exec_sc_answers ht ha', by simp [State.reg_writeNext], ?_, _, exec_sc_unlinked rfl, ?_, rfl⟩
  · simp [Memory.read_write]
  · simp [State.reg_writeNext]

/-- Settles O36: the ldw reads the memory the stw has written one word of. -/
theorem loadAfterStore : Obligations.LoadAfterStore := by
  intro v a v' a' off off' s t ha h ha'
  have ht : t.dmem = s.dmem.write (s.dataAddress a off).toNat (s.reg v) := by
    rw [exec_stw_answers ha, Host.Outcome.next.injEq] at h
    simp [← h]
  refine ⟨_, exec_ldw_answers ha', ?_⟩
  rw [State.reg_writeNext, if_pos rfl, State.loadWord, ht, Memory.read_write]
  simp only [BitVec.toNat_inj]

/-- Settles O34: LLINVAL has cleared the link before the sc runs. -/
theorem llinvalMakesStoreConditionalFail : Obligations.LlinvalMakesStoreConditionalFail := by
  intro s v a off hinval hr
  have hl : s.fetched.status.l = false := by simp [hinval]
  refine ⟨_, (step_of_runs hr).trans (exec_sc_unlinked hl), ?_, hl, rfl⟩
  rw [State.reg_writeNext, if_pos rfl]

end Sys2Proof.Machine
end

section
/-! PROOFS. Encoding (spec/30_encoding.md R101 to R108): a word is the encoder's word exactly where its fields are the operands;
the rows of R103 and the two groups of R105 exclude one another; and the decoder's answer says which of them the word is of. -/

namespace Sys2Proof

/-! ## The encoder's words by their fields (R101) -/

/-- Two neighbouring fields of a word are one field. -/
theorem extract_eq_append {w : Word} {hi n lo m : Nat} {x : BitVec n} {y : BitVec m} (h : hi = lo + m)
    (hx : w.extractLsb' hi n = x) (hy : w.extractLsb' lo m = y) : w.extractLsb' lo (n + m) = x ++ y := by
  rw [← hx, ← hy, BitVec.extractLsb'_append_extractLsb'_eq_extractLsb' h]

theorem encodeOp3_eq_iff {op : BitVec 5} {sub : BitVec 2} {d a b : Reg} {w : Word} :
    encodeOp3 op sub d a b = w ↔ w.extractLsb' 11 5 = op ∧ w.extractLsb' 8 3 = d.bits ∧ w.extractLsb' 5 3 = a.bits ∧
      w.extractLsb' 2 3 = b.bits ∧ w.extractLsb' 0 2 = sub := by
  constructor
  · rintro rfl
    simp
  · rintro ⟨hop, hd, ha, hb, hsub⟩
    have hregs := extract_eq_append rfl hd (extract_eq_append rfl ha (extract_eq_append rfl hb hsub))
    exact (extract_eq_append rfl hop hregs).symm.trans BitVec.extractLsb'_eq_self

theorem encodeOp1_eq_iff {op : BitVec 5} {t : Reg} {val : BitVec 8} {w : Word} :
    encodeOp1 op t val = w ↔ w.extractLsb' 11 5 = op ∧ w.extractLsb' 8 3 = t.bits ∧ w.extractLsb' 0 8 = val := by
  constructor
  · rintro rfl
    simp
  · rintro ⟨hop, ht, hval⟩
    exact (extract_eq_append rfl hop (extract_eq_append rfl ht hval)).symm.trans BitVec.extractLsb'_eq_self

theorem encodeImm4_eq_iff {op : BitVec 5} {t : Reg} {val : BitVec 4} {w : Word} :
    encodeImm4 op t val = w ↔
      w.extractLsb' 11 5 = op ∧ w.extractLsb' 8 3 = t.bits ∧ w.extractLsb' 4 4 = 0#4 ∧ w.extractLsb' 0 4 = val := by
  constructor
  · rintro rfl
    simp
  · rintro ⟨hop, ht, hzero, hval⟩
    have hlow := extract_eq_append rfl ht (extract_eq_append rfl hzero hval)
    exact (extract_eq_append rfl hop hlow).symm.trans BitVec.extractLsb'_eq_self

theorem encodeOp0_eq_iff {op : BitVec 5} {val : BitVec 11} {w : Word} :
    encodeOp0 op val = w ↔ w.extractLsb' 11 5 = op ∧ w.extractLsb' 0 11 = val := by
  constructor
  · rintro rfl
    simp
  · rintro ⟨hop, hval⟩
    exact (extract_eq_append rfl hop hval).symm.trans BitVec.extractLsb'_eq_self

theorem encodeOp2_eq_iff {op : BitVec 5} {r : Reg} {mid : BitVec 3} {low : BitVec 5} {w : Word} :
    encodeOp2 op r mid low = w ↔
      w.extractLsb' 11 5 = op ∧ w.extractLsb' 8 3 = r.bits ∧ w.extractLsb' 5 3 = mid ∧ w.extractLsb' 0 5 = low := by
  constructor
  · rintro rfl
    simp
  · rintro ⟨hop, hr, hmid, hlow⟩
    have hrest := extract_eq_append rfl hr (extract_eq_append rfl hmid hlow)
    exact (extract_eq_append rfl hop hrest).symm.trans BitVec.extractLsb'_eq_self

/-! ## Decoding what was encoded -/

/-- Settles O1: by the figure of R101 the instruction is encoded in, whose fields the decoder reads back. -/
theorem decodeOfEncode : Obligations.DecodeOfEncode := by
  intro i
  cases i with
  | or | and | nor | xor | add | sub | addc | subc | shl | shr | shra =>
    simp [encode, decode, encodeOp3_op, encodeOp3_dest, encodeOp3_arg1, encodeOp3_arg2, encodeOp3_sub]
  | li | shlli | inci | deci | andi | ori | nori | xori | lhswp | bz | bnz | jr | jlr =>
    simp [encode, decode, checkZero, encodeOp1_op, encodeOp1_reg, encodeOp1_val]
  | shli | shri | shrai =>
    simp [encode, decode, checkZero, encodeImm4_op, encodeImm4_reg, encodeImm4_mbz, encodeImm4_val]
  | ba | bal | int | rfi =>
    simp [encode, decode, checkZero, encodeOp0_op, encodeOp0_val]
  | ldw | stw | sc | mfcp | mtcp | cpop | mfctl | mtctl =>
    simp [encode, decode, checkZero, encodeOp2_op, encodeOp2_reg, encodeOp2_mid, encodeOp2_low]

/-- Settles O5, by evaluating the decoder on each of the sixteen words. -/
theorem specWordsDecode : Obligations.SpecWordsDecode := by
  unfold Obligations.SpecWordsDecode
  decide

/-! ## The rows exclude one another (R103, R105) -/

namespace WellFormed

/-- The two groups of R105 in the form of the row table: opcode 00010 with subcode 11, and opcode 10111. -/
def unassignedRows : List Row := [⟨"00010 with 11", 0x1003, 0xf803, 0⟩, ⟨"10111", 0xb800, 0xf800, 0⟩]

theorem exists_unassignedRows_selects {w : Word} :
    (∃ g ∈ unassignedRows, selects w g = true) ↔ (w &&& 0xf803 = 0x1003 ∨ w &&& 0xf800 = 0xb800) := by
  simp [unassignedRows, selects]

theorem word_iff {w : Word} : word w = true ↔ ∃ r ∈ rows, selects w r = true ∧ mbzClear w r = true := by
  simp [word]

theorem assigned_iff {w : Word} : assigned w = true ↔ ∃ r ∈ rows, selects w r = true := by
  simp [assigned]

theorem assigned_of_word {w : Word} (h : word w = true) : assigned w = true := by
  obtain ⟨r, hr, hselects, -⟩ := word_iff.1 h
  exact assigned_iff.2 ⟨r, hr, hselects⟩

/-- The two rows ask for different values of some bit that both masks read. -/
def Row.excludes (r q : Row) : Bool := r.value &&& q.mask != q.value &&& r.mask

theorem Row.not_selects_both {r q : Row} (h : r.excludes q = true) (w : Word) :
    ¬ (selects w r = true ∧ selects w q = true) := by
  simp only [selects, beq_iff_eq]
  rintro ⟨hr, hq⟩
  have hvalues : r.value &&& q.mask = q.value &&& r.mask := by
    rw [← hr, ← hq, BitVec.and_assoc, BitVec.and_assoc, BitVec.and_comm r.mask]
  simp [Row.excludes, hvalues] at h

theorem rows_exclude : (rows ++ unassignedRows).Pairwise (fun r q => r.excludes q = true) := by decide

theorem rows_pairwise_not_selects (w : Word) :
    rows.Pairwise (fun r q => ¬ (selects w r = true ∧ selects w q = true)) :=
  (List.pairwise_append.1 rows_exclude).1.imp fun h => Row.not_selects_both h w

theorem selects_unique {w : Word} {r q : Row} (hr : r ∈ rows) (hq : q ∈ rows) (hwr : selects w r = true)
    (hwq : selects w q = true) : r = q := by
  have : Std.Symm (fun r q : Row => ¬ (selects w r = true ∧ selects w q = true)) := ⟨fun _ _ h hs => h hs.symm⟩
  by_contra hne
  exact (rows_pairwise_not_selects w).forall hr hq hne ⟨hwr, hwq⟩

theorem assigned_eq_false_of_unassignedRows {w : Word} {g : Row} (hg : g ∈ unassignedRows) (hwg : selects w g = true) :
    assigned w = false := by
  obtain ⟨-, -, hexcludes⟩ := List.pairwise_append.1 rows_exclude
  rw [← Bool.not_eq_true, assigned_iff]
  rintro ⟨r, hr, hwr⟩
  exact Row.not_selects_both (hexcludes r hr g hg) w ⟨hwr, hwg⟩

end WellFormed

/-! ## Must-be-zero fields (R106) -/

theorem and_fieldMask_eq_zero_iff {w mask : Word} {lo n : Nat} (hn : lo + n ≤ 16)
    (hmask : mask = (BitVec.allOnes n).zeroExtend 16 <<< lo) : w &&& mask = 0 ↔ w.extractLsb' lo n = 0 := by
  subst hmask
  constructor <;> intro h <;> ext k hk
  · have hbit : (w &&& (BitVec.allOnes n).zeroExtend 16 <<< lo).getLsbD (lo + k) = false := by simp [h]
    grind
  · have hbit : (w.extractLsb' lo n).getLsbD (k - lo) = false := by simp [h]
    grind

theorem and_not_eq_self {w mask : Word} (h : w &&& mask = 0) : w &&& ~~~mask = w := by
  ext k hk
  have hbit : (w &&& mask).getLsbD k = false := by simp [h]
  grind

theorem extract_of_cleared_elsewhere {w mask : Word} {lo n : Nat} (h : mask.extractLsb' lo n = 0#n) :
    (w &&& ~~~mask).extractLsb' lo n = w.extractLsb' lo n := by
  ext k hk
  have hbit : (mask.extractLsb' lo n).getLsbD k = false := by simp [h]
  grind

theorem extract_of_cleared {w mask : Word} {lo n : Nat} (h : mask.extractLsb' lo n = BitVec.allOnes n) :
    (w &&& ~~~mask).extractLsb' lo n = 0#n := by
  ext k hk
  have hbit : (mask.extractLsb' lo n).getLsbD k = true := by simp [h, hk]
  grind

/-! ## What the decoder answers (R108) -/

/-- What an answer of the decoder says of the word it was given: it is the instruction's word; or it is of a row with a one in
the row's must-be-zero bits, and is the instruction's word but for them (R106); or it is of a group of R105. -/
def Decoded.AgreesWith (w : Word) : Decoded → Prop
  | .ok i => encode i = w
  | .mustBeZero i => ∃ r ∈ WellFormed.rows, WellFormed.selects w r = true ∧ WellFormed.mbzClear w r = false ∧
      encode i = w &&& ~~~r.mbz
  | .unassigned => ∃ g ∈ WellFormed.unassignedRows, WellFormed.selects w g = true

section Fields

variable {w : Word}

/-! A row selects the word by its fields. -/

theorem selects_of_opcode {op : BitVec 5} {r : WellFormed.Row} (hop : (w.extractLsb' 11 5).toNat = op.toNat)
    (hmask : r.mask = 0xf800) (hvalue : r.value = op.zeroExtend 16 <<< 11) : WellFormed.selects w r = true := by
  simp [WellFormed.selects, hmask, hvalue, ← BitVec.eq_of_toNat_eq hop, and_opcodeMask]

theorem selects_of_subcode {op : BitVec 5} {sub : BitVec 2} {r : WellFormed.Row}
    (hop : (w.extractLsb' 11 5).toNat = op.toNat) (hsub : (w.extractLsb' 0 2).toNat = sub.toNat) (hmask : r.mask = 0xf803)
    (hvalue : r.value = op.zeroExtend 16 <<< 11 ||| sub.zeroExtend 16) : WellFormed.selects w r = true := by
  simp [WellFormed.selects, hmask, hvalue, ← BitVec.eq_of_toNat_eq hop, ← BitVec.eq_of_toNat_eq hsub, and_subcodeMask]

/-! The decoder's fields put the word together again. -/

theorem encodeOp3_of_fields {op : BitVec 5} {sub : BitVec 2} (hop : (w.extractLsb' 11 5).toNat = op.toNat)
    (hsub : (w.extractLsb' 0 2).toNat = sub.toNat) :
    encodeOp3 op sub (.ofBits (w.extractLsb' 8 3)) (.ofBits (w.extractLsb' 5 3)) (.ofBits (w.extractLsb' 2 3)) = w := by
  simp [encodeOp3_eq_iff, BitVec.eq_of_toNat_eq hop, BitVec.eq_of_toNat_eq hsub, Reg.bits_ofBits]

theorem encodeOp1_of_fields {op : BitVec 5} (hop : (w.extractLsb' 11 5).toNat = op.toNat) :
    encodeOp1 op (.ofBits (w.extractLsb' 8 3)) (w.extractLsb' 0 8) = w := by
  simp [encodeOp1_eq_iff, BitVec.eq_of_toNat_eq hop, Reg.bits_ofBits]

theorem encodeOp0_of_fields {op : BitVec 5} (hop : (w.extractLsb' 11 5).toNat = op.toNat) :
    encodeOp0 op (w.extractLsb' 0 11) = w := by
  simp [encodeOp0_eq_iff, BitVec.eq_of_toNat_eq hop]

theorem encodeOp2_of_fields {op : BitVec 5} {mid : BitVec 3} (hop : (w.extractLsb' 11 5).toNat = op.toNat)
    (hmid : mid = w.extractLsb' 5 3) : encodeOp2 op (.ofBits (w.extractLsb' 8 3)) mid (w.extractLsb' 0 5) = w := by
  simp [encodeOp2_eq_iff, BitVec.eq_of_toNat_eq hop, Reg.bits_ofBits, hmid]

/-! The same for the rows with must-be-zero bits (R106), the word with those bits cleared. -/

theorem encodeImm4_of_fields {op : BitVec 5} (hop : (w.extractLsb' 11 5).toNat = op.toNat) :
    encodeImm4 op (.ofBits (w.extractLsb' 8 3)) (w.extractLsb' 0 4) = w &&& ~~~0x00f0#16 := by
  simp only [encodeImm4_eq_iff, Reg.bits_ofBits, ← BitVec.eq_of_toNat_eq hop]
  exact ⟨extract_of_cleared_elsewhere rfl, extract_of_cleared_elsewhere rfl, extract_of_cleared rfl,
    extract_of_cleared_elsewhere rfl⟩

theorem encodeOp1_of_reg {op : BitVec 5} (hop : (w.extractLsb' 11 5).toNat = op.toNat) :
    encodeOp1 op (.ofBits (w.extractLsb' 8 3)) 0 = w &&& ~~~0x00ff#16 := by
  simp only [encodeOp1_eq_iff, Reg.bits_ofBits, ← BitVec.eq_of_toNat_eq hop]
  exact ⟨extract_of_cleared_elsewhere rfl, extract_of_cleared_elsewhere rfl, extract_of_cleared rfl⟩

theorem encodeOp2_of_reg_mid {op : BitVec 5} (hop : (w.extractLsb' 11 5).toNat = op.toNat) :
    encodeOp2 op (.ofBits (w.extractLsb' 8 3)) (CpNum.ofBits (w.extractLsb' 5 3)).bits 0 = w &&& ~~~0x001f#16 := by
  simp only [encodeOp2_eq_iff, Reg.bits_ofBits, CpNum.bits_ofBits, ← BitVec.eq_of_toNat_eq hop]
  exact ⟨extract_of_cleared_elsewhere rfl, extract_of_cleared_elsewhere rfl, extract_of_cleared_elsewhere rfl,
    extract_of_cleared rfl⟩

theorem encodeOp2_of_reg_low {op : BitVec 5} (hop : (w.extractLsb' 11 5).toNat = op.toNat) :
    encodeOp2 op (.ofBits (w.extractLsb' 8 3)) 0 (CtlReg.ofBits (w.extractLsb' 0 5)).bits = w &&& ~~~0x00e0#16 := by
  simp only [encodeOp2_eq_iff, Reg.bits_ofBits, CtlReg.bits_ofBits, ← BitVec.eq_of_toNat_eq hop]
  exact ⟨extract_of_cleared_elsewhere rfl, extract_of_cleared_elsewhere rfl, extract_of_cleared rfl,
    extract_of_cleared_elsewhere rfl⟩

theorem encodeOp0_of_opcode {op : BitVec 5} (hop : (w.extractLsb' 11 5).toNat = op.toNat) :
    encodeOp0 op 0 = w &&& ~~~0x07ff#16 := by
  simp only [encodeOp0_eq_iff, ← BitVec.eq_of_toNat_eq hop]
  exact ⟨extract_of_cleared_elsewhere rfl, extract_of_cleared rfl⟩

/-- Step (5) of R108 at a row that the opcode selects and whose must-be-zero bits are one field. -/
theorem checkZero_agreesWith (r : WellFormed.Row) (op : BitVec 5) {lo n : Nat} {i : Instr}
    (hop : (w.extractLsb' 11 5).toNat = op.toNat)
    (hr : r ∈ WellFormed.rows ∧ r.mask = 0xf800 ∧ r.value = op.zeroExtend 16 <<< 11)
    (hmbz : lo + n ≤ 16 ∧ r.mbz = (BitVec.allOnes n).zeroExtend 16 <<< lo) (hi : encode i = w &&& ~~~r.mbz) :
    (checkZero (w.extractLsb' lo n == 0) i).AgreesWith w := by
  obtain ⟨hrow, hmask, hvalue⟩ := hr
  have hfield : w &&& r.mbz = 0 ↔ w.extractLsb' lo n = 0 := and_fieldMask_eq_zero_iff hmbz.1 hmbz.2
  by_cases hzero : w.extractLsb' lo n = 0
  · rw [hzero, beq_self_eq_true]
    exact hi.trans (and_not_eq_self (hfield.2 hzero))
  · rw [beq_false_of_ne hzero]
    exact ⟨r, hrow, selects_of_opcode hop hmask hvalue, beq_false_of_ne (mt hfield.1 hzero), hi⟩

/-- By the opcode, in the order 0 to 31, and by the subcode where R108 asks for it. -/
theorem decode_agreesWith (w : Word) : (decode w).AgreesWith w := by
  have hop_lt := (w.extractLsb' 11 5).isLt
  have hsub_lt := (w.extractLsb' 0 2).isLt
  unfold decode
  interval_cases hop : (w.extractLsb' 11 5).toNat
  iterate 2
    · interval_cases hsub : (w.extractLsb' 0 2).toNat <;> exact encodeOp3_of_fields hop hsub
  · interval_cases hsub : (w.extractLsb' 0 2).toNat
    iterate 3 exact encodeOp3_of_fields hop hsub
    exact ⟨⟨"00010 with 11", 0x1003, 0xf803, 0⟩, by decide, selects_of_subcode (op := 2) (sub := 3) hop hsub rfl rfl⟩
  iterate 8 exact encodeOp1_of_fields hop
  · exact checkZero_agreesWith ⟨"shli", 0x5800, 0xf800, 0x00f0⟩ 11 hop (by decide) (by decide) (encodeImm4_of_fields hop)
  · exact checkZero_agreesWith ⟨"shri", 0x6000, 0xf800, 0x00f0⟩ 12 hop (by decide) (by decide) (encodeImm4_of_fields hop)
  · exact checkZero_agreesWith ⟨"shrai", 0x6800, 0xf800, 0x00f0⟩ 13 hop (by decide) (by decide) (encodeImm4_of_fields hop)
  · exact checkZero_agreesWith ⟨"lhswp", 0x7000, 0xf800, 0x00ff⟩ 14 hop (by decide) (by decide) (encodeOp1_of_reg hop)
  iterate 2 exact encodeOp0_of_fields hop
  iterate 4 exact encodeOp1_of_fields hop
  iterate 2 exact encodeOp2_of_fields hop (Reg.bits_ofBits _)
  · exact ⟨⟨"10111", 0xb800, 0xf800, 0⟩, by decide, selects_of_opcode (op := 23) hop rfl rfl⟩
  · exact encodeOp2_of_fields hop (Reg.bits_ofBits _)
  iterate 2 exact encodeOp2_of_fields hop (CpNum.bits_ofBits _)
  · exact checkZero_agreesWith ⟨"cpop", 0xd800, 0xf800, 0x001f⟩ 27 hop (by decide) (by decide) (encodeOp2_of_reg_mid hop)
  · exact encodeOp0_of_fields hop
  · exact checkZero_agreesWith ⟨"rfi", 0xe800, 0xf800, 0x07ff⟩ 29 hop (by decide) (by decide) (encodeOp0_of_opcode hop)
  · exact checkZero_agreesWith ⟨"mfctl", 0xf000, 0xf800, 0x00e0⟩ 30 hop (by decide) (by decide) (encodeOp2_of_reg_low hop)
  · exact checkZero_agreesWith ⟨"mtctl", 0xf800, 0xf800, 0x00e0⟩ 31 hop (by decide) (by decide) (encodeOp2_of_reg_low hop)

theorem agreesWith_of_decode {answer : Decoded} (h : decode w = answer) : answer.AgreesWith w :=
  h ▸ decode_agreesWith w

open Laws in
theorem word_encode (i : Instr) : WellFormed.word (encode i) = true := by
  cases i with
  | or d a b => exact EncodesToARow.or d a b
  | and d a b => exact EncodesToARow.and d a b
  | nor d a b => exact EncodesToARow.nor d a b
  | xor d a b => exact EncodesToARow.xor d a b
  | add d a b => exact EncodesToARow.add d a b
  | sub d a b => exact EncodesToARow.sub d a b
  | addc d a b => exact EncodesToARow.addc d a b
  | subc d a b => exact EncodesToARow.subc d a b
  | shl d a b => exact EncodesToARow.shl d a b
  | shr d a b => exact EncodesToARow.shr d a b
  | shra d a b => exact EncodesToARow.shra d a b
  | li t val => exact EncodesToARow.li t val
  | shlli t val => exact EncodesToARow.shlli t val
  | inci t val => exact EncodesToARow.inci t val
  | deci t val => exact EncodesToARow.deci t val
  | andi t val => exact EncodesToARow.andi t val
  | ori t val => exact EncodesToARow.ori t val
  | nori t val => exact EncodesToARow.nori t val
  | xori t val => exact EncodesToARow.xori t val
  | shli t val => exact EncodesToARow.shli t val
  | shri t val => exact EncodesToARow.shri t val
  | shrai t val => exact EncodesToARow.shrai t val
  | lhswp t => exact EncodesToARow.lhswp t
  | ba off => exact EncodesToARow.ba off
  | bal off => exact EncodesToARow.bal off
  | bz t off => exact EncodesToARow.bz t off
  | bnz t off => exact EncodesToARow.bnz t off
  | jr t off => exact EncodesToARow.jr t off
  | jlr t off => exact EncodesToARow.jlr t off
  | ldw v a off => exact EncodesToARow.ldw v a off
  | stw v a off => exact EncodesToARow.stw v a off
  | sc v a off => exact EncodesToARow.sc v a off
  | mfcp d n r => exact EncodesToARow.mfcp d n r
  | mtcp src n r => exact EncodesToARow.mtcp src n r
  | cpop p n => exact EncodesToARow.cpop p n
  | int arg => exact EncodesToARow.int arg
  | rfi => exact EncodesToARow.rfi
  | mfctl d c => exact EncodesToARow.mfctl d c
  | mtctl src c => exact EncodesToARow.mtctl src c

theorem decode_ok_iff_word : (∃ i, decode w = .ok i) ↔ WellFormed.word w = true := by
  constructor
  · rintro ⟨i, hi⟩
    have hw : encode i = w := agreesWith_of_decode hi
    rw [← hw]
    exact word_encode i
  · intro hword
    cases hd : decode w with
    | ok i => exact ⟨i, rfl⟩
    | mustBeZero i =>
      obtain ⟨r, hr, hwr, hclear⟩ := WellFormed.word_iff.1 hword
      obtain ⟨q, hq, hwq, hset, -⟩ := agreesWith_of_decode hd
      rw [WellFormed.selects_unique hq hr hwq hwr, hclear] at hset
      cases hset
    | unassigned =>
      obtain ⟨g, hg, hwg⟩ := agreesWith_of_decode hd
      have hnone := WellFormed.assigned_eq_false_of_unassignedRows hg hwg
      simp [WellFormed.assigned_of_word hword] at hnone

theorem decode_unassigned_iff_assigned : decode w = .unassigned ↔ WellFormed.assigned w = false := by
  constructor
  · intro hd
    obtain ⟨g, hg, hwg⟩ := agreesWith_of_decode hd
    exact WellFormed.assigned_eq_false_of_unassignedRows hg hwg
  · intro hnone
    cases hd : decode w with
    | ok i => simp [WellFormed.assigned_of_word (decode_ok_iff_word.1 ⟨i, hd⟩)] at hnone
    | mustBeZero i =>
      obtain ⟨r, hr, hwr, -⟩ := agreesWith_of_decode hd
      simp [WellFormed.assigned_iff.2 ⟨r, hr, hwr⟩] at hnone
    | unassigned => rfl

end Fields

/-! ## The statements -/

/-- Settles O2: the decoder's fields put the word together again, opcode by opcode. -/
theorem encodeOfDecode : Obligations.EncodeOfDecode := fun _ _ => agreesWith_of_decode

/-- Settles O3: the answer names a row or a group, and no other row selects the word. -/
theorem decodeAgreesWithTheRowTable : Obligations.DecodeAgreesWithTheRowTable :=
  ⟨fun _ => decode_ok_iff_word, fun _ => decode_unassigned_iff_assigned, WellFormed.rows_pairwise_not_selects⟩

/-- Settles O4: a word of a group is of no row, and the decoder answers `unassigned` only for a word of a group. -/
theorem unassignedWordsAreTheTwoGroups : Obligations.UnassignedWordsAreTheTwoGroups := by
  intro w
  rw [← WellFormed.exists_unassignedRows_selects]
  constructor
  · exact agreesWith_of_decode
  · rintro ⟨g, hg, hwg⟩
    exact decode_unassigned_iff_assigned.2 (WellFormed.assigned_eq_false_of_unassignedRows hg hwg)

end Sys2Proof
end

section
/-! PROOFS. Bitwise operations (spec/40_bitwise.md R130 to R138): the instruction a word decodes to, by its fields; the bits of an
operation on the low half; and the two families of bitwise instructions. -/

namespace Sys2Proof.Machine

/-! ## Decoding a word by its fields (R101) -/

/-- R108 read through the encoder: the instruction whose word `w` is, is the one `w` decodes to. -/
theorem decode_eq_ok_of_encode {w : Word} {i : Instr} (h : encode i = w) : decode w = .ok i :=
  h ▸ decodeOfEncode i

theorem decode_op3 {w : Word} {op : BitVec 5} {sub : BitVec 2} {i : Instr}
    (hi : encode i = encodeOp3 op sub (regField w 8) (regField w 5) (regField w 2)) (hop : opcodeOf w = op)
    (hsub : w.extractLsb' 0 2 = sub) : decode w = .ok i :=
  decode_eq_ok_of_encode (hi.trans (encodeOp3_of_fields (congrArg _ hop) (congrArg _ hsub)))

theorem decode_op1 {w : Word} {op : BitVec 5} {i : Instr}
    (hi : encode i = encodeOp1 op (regField w 8) (w.extractLsb' 0 8)) (hop : opcodeOf w = op) : decode w = .ok i :=
  decode_eq_ok_of_encode (hi.trans (encodeOp1_of_fields (congrArg _ hop)))

/-! ## The bits of an operation on the low half (R135 to R138) -/

theorem lowHalf_getLsbD {k : Nat} (hk : k < 8) (v : Word) : (lowHalf v).getLsbD k = v.getLsbD k := by
  simp [lowHalf, hk]

theorem highHalf_getLsbD {k : Nat} (hk : k < 8) (v : Word) : (highHalf v).getLsbD k = v.getLsbD (8 + k) := by
  simp [highHalf, hk]

theorem onLowHalf_getLsbD_low {k : Nat} (hk : k < 8) (f : Half → Half) (v : Word) :
    (onLowHalf f v).getLsbD k = (f (lowHalf v)).getLsbD k := by
  rw [onLowHalf, joinHalves_getLsbD, if_pos hk]

theorem onLowHalf_getLsbD_high {k : Nat} (hlow : 8 ≤ k) (hk : k < 16) (f : Half → Half) (v : Word) :
    (onLowHalf f v).getLsbD k = v.getLsbD k := by
  rw [onLowHalf, joinHalves_getLsbD, if_neg (by omega), highHalf_getLsbD (by omega), Nat.add_sub_cancel' hlow]

/-- An instruction that operates on the low half of a register completes: the low bits are the operation's, the high half is
kept. -/
theorem completesWriting_onLowHalf {i : Instr} {t : Reg} {s : State} {f : Half → Half} {low : Nat → Bool}
    (h : exec i s = opImm (onLowHalf f) t s) (hlow : ∀ k < 8, (f (lowHalf (s.reg t))).getLsbD k = low k) :
    CompletesWriting i t s (fun v => (∀ k < 8, v.getLsbD k = low k) ∧
      ∀ k, 8 ≤ k → k < 16 → v.getLsbD k = (s.reg t).getLsbD k) :=
  completesWriting_of h ⟨fun k hk => (onLowHalf_getLsbD_low hk f _).trans (hlow k hk),
    fun _ h8 h16 => onLowHalf_getLsbD_high h8 h16 f _⟩

/-! ## The statements -/

/-- Settles O15: each meaning writes one register, and its value is the word operation whose bits the statement gives. -/
theorem bitwiseThreeRegisterForms : Obligations.BitwiseThreeRegisterForms := by
  refine ⟨fun w hop => ⟨decode_op3 rfl hop, decode_op3 rfl hop, decode_op3 rfl hop, decode_op3 rfl hop⟩,
    fun d a b s => ⟨?or, ?and, ?nor, ?xor⟩⟩
  case or => exact completesWriting_of rfl fun _ _ => BitVec.getLsbD_or
  case and => exact completesWriting_of rfl fun _ _ => BitVec.getLsbD_and
  case nor => exact completesWriting_of rfl fun _ hk => by simp [hk]
  case xor => exact completesWriting_of rfl fun _ _ => by simp

/-- Settles O16: each meaning is an operation on the low half, whose low bits are those of the half operation. -/
theorem bitwiseImmediateFormsKeepTheHighHalf : Obligations.BitwiseImmediateFormsKeepTheHighHalf := by
  refine ⟨fun w => ⟨decode_op1 rfl, decode_op1 rfl, decode_op1 rfl, decode_op1 rfl⟩,
    fun t val s => ⟨?andi, ?ori, ?nori, ?xori⟩⟩
  case andi => exact completesWriting_onLowHalf rfl fun _ hk => by simp [lowHalf_getLsbD hk]
  case ori => exact completesWriting_onLowHalf rfl fun _ hk => by simp [lowHalf_getLsbD hk]
  case nori => exact completesWriting_onLowHalf rfl fun _ hk => by rw [← lowHalf_getLsbD hk]; simp [hk]
  case xori => exact completesWriting_onLowHalf rfl fun _ hk => by simp [lowHalf_getLsbD hk]

end Sys2Proof.Machine
end

section
/-! PROOFS. Arithmetic operations (spec/41_arithmetic.md R140 to R146): the value of an unsigned immediate (R102), and the two
instructions that add it to a register and subtract it. -/

namespace Sys2Proof.Machine

/-! ## Unsigned immediates (R102) -/

@[simp] theorem zext_toNat {n : Nat} (hn : n ≤ 16) (v : BitVec n) : (zext v).toNat = v.toNat :=
  BitVec.toNat_setWidth_of_le hn

theorem add_zext_toNat {n : Nat} (hn : n ≤ 16) (x : Word) (v : BitVec n) :
    (x + zext v).toNat = (x.toNat + v.toNat) % 2 ^ 16 := by
  rw [BitVec.toNat_add, zext_toNat hn]

theorem sub_zext_toNat {n : Nat} (hn : n ≤ 16) (x : Word) (v : BitVec n) :
    (x - zext v).toNat = (x.toNat + (2 ^ 16 - v.toNat)) % 2 ^ 16 := by
  rw [BitVec.toNat_sub, zext_toNat hn, Nat.add_comm]

/-! ## The statements -/

/-- Settles O19: each meaning writes its own register, with the word sum or difference of the old value and the immediate. -/
theorem incrementAndDecrement : Obligations.IncrementAndDecrement := by
  refine ⟨fun w => ⟨decode_op1 rfl, decode_op1 rfl⟩, fun t val s => ⟨?inci, ?deci⟩⟩
  case inci => exact completesWriting_of rfl (add_zext_toNat (by decide) (s.reg t) val)
  case deci => exact completesWriting_of rfl (sub_zext_toNat (by decide) (s.reg t) val)

end Sys2Proof.Machine
end

section
/-! PROOFS. Shift operations (spec/42_shift.md R150 to R157): the shift functions and the exchange of halves as arithmetic on the
register's value, and the instructions that shift by an immediate. -/

namespace Sys2Proof.Machine

/-! ## Decoding (R101) -/

theorem decode_imm4 {w : Word} {op : BitVec 5} {i : Instr}
    (hi : encode i = encodeImm4 op (regField w 8) (w.extractLsb' 0 4)) (hzero : w.extractLsb' 4 4 = 0)
    (hop : opcodeOf w = op) : decode w = .ok i :=
  decode_eq_ok_of_encode (hi.trans (encodeImm4_eq_iff.2 ⟨hop, (Reg.bits_ofBits _).symm, hzero, rfl⟩))

/-! ## The shift functions (R150) and the exchange of halves (R157) -/

theorem shiftLeft_toNat (v : Word) (n : Nat) : (shiftLeft v n).toNat = (v.toNat * 2 ^ n) % 2 ^ 16 := by
  rw [shiftLeft, BitVec.toNat_shiftLeft, Nat.shiftLeft_eq]

theorem shiftRight_toNat (v : Word) (n : Nat) : (shiftRight v n).toNat = v.toNat / 2 ^ n := by
  rw [shiftRight, BitVec.toNat_ushiftRight, Nat.shiftRight_eq_div_pow]

theorem shiftRightArith_toInt (v : Word) (n : Nat) : (shiftRightArith v n).toInt = v.toInt / 2 ^ n := by
  rw [shiftRightArith, BitVec.toInt_sshiftRight, Int.shiftRight_eq_div_pow, Nat.cast_pow, Nat.cast_ofNat]

theorem lowHalf_toNat (v : Word) : (lowHalf v).toNat = v.toNat % 2 ^ 8 := by
  rw [lowHalf, BitVec.extractLsb'_toNat, Nat.shiftRight_zero]

theorem highHalf_toNat (v : Word) : (highHalf v).toNat = v.toNat / 2 ^ 8 := by
  rw [highHalf, BitVec.extractLsb'_toNat, Nat.shiftRight_eq_div_pow]
  exact Nat.mod_eq_of_lt (Nat.div_lt_of_lt_mul v.isLt)

theorem joinHalves_swapped_toNat (v : Word) :
    (joinHalves (lowHalf v) (highHalf v)).toNat = (v.toNat % 2 ^ 8) * 2 ^ 8 + v.toNat / 2 ^ 8 := by
  rw [joinHalves_toNat, lowHalf_toNat, highHalf_toNat]

/-! ## The statements -/

/-- Settles O23: each meaning writes its own register, with the shift function of the amount in the field, or with the halves
exchanged. -/
theorem shiftsByAnImmediateAndSwap : Obligations.ShiftsByAnImmediateAndSwap := by
  refine ⟨fun w => ⟨fun hzero => ⟨decode_imm4 rfl hzero, decode_imm4 rfl hzero, decode_imm4 rfl hzero⟩,
      fun hzero => decode_op1 (congrArg (encodeOp1 _ _) hzero.symm)⟩,
    fun t val s => ⟨?shli, ?shri, ?shrai⟩, fun t s => ?lhswp⟩
  case shli => exact completesWriting_of rfl (shiftLeft_toNat (s.reg t) val.toNat)
  case shri => exact completesWriting_of rfl (shiftRight_toNat (s.reg t) val.toNat)
  case shrai => exact completesWriting_of rfl (shiftRightArith_toInt (s.reg t) val.toNat)
  case lhswp => exact completesWriting_of rfl (joinHalves_swapped_toNat (s.reg t))

end Sys2Proof.Machine
end

section
/-! PROOFS. Branches (spec/43_branch.md R160 to R167): what decides a conditional branch and where it goes, the words of R101 with
an 11-bit offset, and the return through the link register. -/

namespace Sys2Proof.Machine

/-! ## Decoding (R101) -/

theorem decode_op0 {w : Word} {op : BitVec 5} {i : Instr} (hi : encode i = encodeOp0 op (w.extractLsb' 0 11))
    (hop : opcodeOf w = op) : decode w = .ok i :=
  decode_eq_ok_of_encode (hi.trans (encodeOp0_of_fields (congrArg _ hop)))

/-! ## Targets (R160) -/

theorem isZero_iff {v : Word} : isZero v = true ↔ v = 0 := beq_iff_eq

theorem not_isZero_iff {v : Word} : (!isZero v) = true ↔ v ≠ 0 := by
  rw [Bool.not_eq_true', ← Bool.not_eq_true, isZero_iff]

theorem offsetFrom_zero {n : Nat} (base : Word) : offsetFrom base (0 : BitVec n) = base := by
  simp [offsetFrom, sext, BitVec.signExtend]

/-- A conditional branch completes: `pc` holds the target where the condition holds, and the next address where it does not. -/
theorem completesJumping_branchIf {i : Instr} {s : State} {c : Bool} {off : BitVec 8} {taken : Prop} [Decidable taken]
    (h : exec i s = .next (s.branchIf c off)) (hc : c = true ↔ taken) :
    CompletesJumping i s (fun p =>
      (p.toNat : Int) = (if taken then (s.pc.toNat : Int) + off.toInt else s.pc.toNat + 1) % 2 ^ 16) := by
  by_cases ht : taken
  · rw [State.branchIf, if_pos (hc.2 ht)] at h
    simp only [if_pos ht]
    exact completesJumping_of h (offsetFrom_toNat s.pc off (by decide))
  · rw [State.branchIf, if_neg (mt hc.1 ht)] at h
    simp only [if_neg ht]
    exact completesJumping_of h (congrArg Nat.cast (nextPc_toNat s.pc))

/-! ## The statements -/

/-- Settles O24: the target of both is the offset from `pc`; `bal` links first. -/
theorem branchAlways : Obligations.BranchAlways := by
  refine ⟨fun w => ⟨decode_op0 rfl, decode_op0 rfl⟩, fun off s => ⟨?ba, ?bal⟩⟩
  case ba => exact completesJumping_of rfl (offsetFrom_toNat s.pc off (by decide))
  case bal => exact completesLinking_of rfl (offsetFrom_toNat s.pc off (by decide))

/-- Settles O25: both are one conditional branch, on whether the register is zero and on whether it is not. -/
theorem branchOnZeroAndNonzero : Obligations.BranchOnZeroAndNonzero := by
  refine ⟨fun w => ⟨decode_op1 rfl, decode_op1 rfl⟩, fun t off s => ⟨?bz, ?bnz⟩⟩
  case bz => exact completesJumping_branchIf rfl isZero_iff
  case bnz => exact completesJumping_branchIf rfl not_isZero_iff

/-- Settles O26: the target of both is the offset from the register in the state before the link. -/
theorem jumpToARegister : Obligations.JumpToARegister := by
  refine ⟨fun w => ⟨decode_op1 rfl, decode_op1 rfl⟩, fun r off s => ⟨?jr, ?jlr⟩⟩
  case jr => exact completesJumping_of rfl (offsetFrom_toNat (s.reg r) off (by decide))
  case jlr => exact completesLinking_of rfl (offsetFrom_toNat (s.reg r) off (by decide))

/-- Settles O27: R7 holds the link of the `bal`, and offset 0 from it is the link itself. -/
theorem returnFromBranchAndLink : Obligations.ReturnFromBranchAndLink := by
  rintro off s _ u ⟨⟩ hlink
  have htarget : offsetFrom (u.reg .r7) (0 : BitVec 8) = nextPc s.pc := by
    rw [offsetFrom_zero, hlink, State.reg_linkAndJump, if_pos rfl]
  exact ⟨_, rfl, (congrArg BitVec.toNat htarget).trans (nextPc_toNat s.pc)⟩

end Sys2Proof.Machine
end

section
/-! PROOFS. Load operations (spec/44_load_store.md R170 to R172): the two immediate loads as arithmetic on halves, the ways a
data access ends, and the data-fault trap. -/

namespace Sys2Proof.Machine

/-! ## Decoding (R101) -/

theorem decode_mem {w : Word} {op : BitVec 5} {i : Instr}
    (hi : encode i = encodeOp2 op (regField w 8) (regField w 5).bits (w.extractLsb' 0 5)) (hop : opcodeOf w = op) :
    decode w = .ok i :=
  decode_eq_ok_of_encode (hi.trans (encodeOp2_of_fields (congrArg _ hop) (Reg.bits_ofBits _)))

/-! ## A new low half (R171) -/

theorem joinHalves_lowHalf_toNat (v : Word) (lo : Half) :
    (joinHalves (lowHalf v) lo).toNat = (v.toNat % 2 ^ 8) * 2 ^ 8 + lo.toNat := by
  rw [joinHalves_toNat, lowHalf_toNat]

/-! ## Refused and silent accesses (R76, R77, U9) -/

section Access

variable {s : State}

theorem State.access_refuses {addr : Word} (ha : s.dataAnswer addr = .refuses) (completed faulted : State) :
    s.access addr completed faulted = .next (faulted.raise .dataFault) := by
  simp [State.access, ha]

theorem State.access_silent {addr : Word} (ha : s.dataAnswer addr = .silent) (completed faulted : State) :
    s.access addr completed faulted = .fault .dataBusSilent := by
  simp [State.access, ha]

/-- R172, the refused case. -/
theorem exec_ldw_refuses {v a : Reg} {off : BitVec 5} (ha : s.dataAnswer (s.dataAddress a off) = .refuses) :
    exec (.ldw v a off) s =
      .next (((s.emit (.dataRead (s.dataAddress a off))).setLink false).raise .dataFault) :=
  State.access_refuses ha _ _

/-- R172 with U9, the silent case. -/
theorem exec_ldw_silent {v a : Reg} {off : BitVec 5} (ha : s.dataAnswer (s.dataAddress a off) = .silent) :
    exec (.ldw v a off) s = .fault .dataBusSilent :=
  State.access_silent ha _ _

end Access

/-! ## The data-fault trap (R204) -/

/-- R204: the trap entry of R215, taken after one request has gone out and the link has been given its value. -/
theorem State.dataFaultTaken_raise (s : State) (link : Bool) (request : Event) :
    s.dataFaultTaken (((s.emit request).setLink link).raise .dataFault) link request := by
  obtain ⟨hpc, hepc, hsaved, hstatus, hregs, hhandlers, hmem, hplat, hevents, hnvram⟩ :=
    ((s.emit request).setLink link).trapTaken_raise .dataFault
  exact ⟨hpc, hepc, hsaved, hstatus, hregs, hhandlers, hmem, hplat, hnvram, hevents⟩

/-! ## The statements -/

/-- Settles O28: each meaning writes its own register, `li` with the immediate alone, `shlli` with the old low half above
it. -/
theorem loadImmediate : Obligations.LoadImmediate := by
  refine ⟨fun w => ⟨decode_op1 rfl, decode_op1 rfl⟩, fun t val s => ⟨?li, ?shlli⟩⟩
  case li => exact completesWriting_of rfl (zext_toNat (by decide) val)
  case shlli => exact completesWriting_of rfl (joinHalves_lowHalf_toNat (s.reg t) val)

/-- Settles O30, by the three answers of the controller: the completed load is a register write after the read request and the
setting of the link; a refused one is the trap of `dataFaultTaken_raise`. -/
theorem loadWord : Obligations.LoadWord := by
  refine ⟨fun w => decode_mem rfl, fun v a off s => ⟨fun ha => ?answers, fun ha => ?refuses, exec_ldw_silent⟩⟩
  case answers =>
    refine ⟨_, exec_ldw_answers ha, ?value, rfl, nextPc_toNat s.pc, State.sameRegsBut_setReg _ v _, ?control,
      State.sameMemory_of rfl rfl, ?platform, rfl, rfl⟩
    case value => rw [State.reg_writeNext, if_pos rfl, State.loadWord]
    case control => simp [State.sameControl, State.sameHandlers]
    case platform => simp [State.samePlatform]
  case refuses => exact ⟨_, exec_ldw_refuses ha, s.dataFaultTaken_raise false _⟩

end Sys2Proof.Machine
end

section
/-! PROOFS. Software interrupt and return (spec/46_privilege.md R190 to R196): the two ways a privileged instruction ends, and
what a return from a trap leaves unchanged. -/

namespace Sys2Proof.Machine

/-! ## Privileged instructions (R208) -/

section Privileged

variable {s : State}

theorem State.privileged_user (hm : s.status.m = true) (completed : State) :
    s.privileged completed = .next (s.raise .privilegedOperation) := by
  simp [State.privileged, hm]

theorem State.privileged_supervisor (hm : s.status.m = false) (completed : State) :
    s.privileged completed = .next completed := by
  simp [State.privileged, hm]

/-- R196 in supervisor mode. -/
theorem exec_rfi_supervisor (hm : s.status.m = false) : exec .rfi s = .next s.returnFromTrap :=
  State.privileged_supervisor hm _

/-- R196 in user mode. -/
theorem exec_rfi_user (hm : s.status.m = true) : exec .rfi s = .next (s.raise .privilegedOperation) :=
  State.privileged_user hm _

end Privileged

/-! ## The frame of a return (R216) -/

theorem State.sameHandlers_returnFromTrap (s : State) : s.sameHandlers s.returnFromTrap := by
  simp [State.sameHandlers]

theorem State.samePlatform_returnFromTrap (s : State) : s.samePlatform s.returnFromTrap := by
  simp [State.samePlatform]

/-! ## The statements -/

/-- Settles O43: the meaning is the trap entry of its own cause, which reads neither the mode nor STATUS.E to decide
anything. -/
theorem softwareInterrupt : Obligations.SoftwareInterrupt :=
  ⟨fun _ => decode_op0 rfl, fun arg s => ⟨_, rfl, s.trapTaken_raise (.softwareInterrupt arg)⟩⟩

/-- Settles O44, by the mode: the return of R216 with its frame, or the trap of a privileged operation. -/
theorem returnFromInterrupt : Obligations.ReturnFromInterrupt := by
  refine ⟨decode_eq_ok_of_encode (by decide), fun s => ⟨fun hm => ?supervisor, fun hm => ?user⟩⟩
  case supervisor =>
    exact ⟨_, exec_rfi_supervisor hm, s.returnFromTrap_pc, s.returnFromTrap_epc, s.returnFromTrap_epcSaved,
      s.returnFromTrap_status, ⟨s.returnFromTrap_xu, s.returnFromTrap_xs⟩, s.sameHandlers_returnFromTrap,
      State.sameMemory_of s.returnFromTrap_dmem s.returnFromTrap_imem, s.samePlatform_returnFromTrap,
      ⟨s.returnFromTrap_events, s.returnFromTrap_nvram⟩⟩
  case user => exact ⟨_, exec_rfi_user hm, s.trapTaken_raise .privilegedOperation⟩

end Sys2Proof.Machine
end

section
/-! PROOFS. Exceptions (spec/60_exceptions.md R200 to R222): which register a trap's vector comes from, what a trap entry does to the
state it interrupts, and every way an instruction and a step change STATUS.M. -/

namespace Sys2Proof.Machine

variable {s t : State}

/-! ## Vectors and resume addresses (R200) -/

/-- Every vector is the content of one of the thirteen handler registers (R39, R200). -/
theorem State.handler_mem (s : State) (c : Cause) :
    s.handler c = s.ifaulthdl ∨ s.handler c = s.dfaulthdl ∨ s.handler c = s.swihdl ∨ s.handler c = s.illophdl ∨
      s.handler c = s.privophdl ∨ ∃ n, s.handler c = s.exihdl.get n := by
  cases c with
  | coprocessorDisabled n => cases hp : s.params.coprocDenied <;> simp [State.handler, hp]
  | externalInterrupt n => exact .inr (.inr (.inr (.inr (.inr ⟨n, rfl⟩))))
  | _ => simp [State.handler]

/-- A trap resumes at the instruction it was taken at, or at the following one (R200). -/
theorem State.resumeAddress_mem (s : State) (c : Cause) : s.resumeAddress c = s.pc ∨ s.resumeAddress c = s.pc + 1 := by
  cases c <;> simp [State.resumeAddress, nextPc]

/-! ## Trap entries (R215) -/

/-- From `s` to `t` a trap of cause `c` has been entered (R215), the overflow trap only where `OVERFLOW_TRAP` is true (D7). Of the
rest nothing is said, since the boundary, the fetch and a refused access may come before the entry. -/
structure State.EntersTrap (s : State) (c : Cause) (t : State) : Prop where
  enabled : c = .arithmeticOverflow → s.params.overflowTrap = true
  pc : t.pc = s.handler c
  epc : t.epc = s.resumeAddress c
  epcSaved : t.epcSaved = s.epc
  mode : t.status.m = false
  interrupts : t.status.e = false
  previousMode : t.status.u = s.status.m
  savedMode : t.status.s = s.status.u
  argument : t.status.a = s.trapArgument c
  regs : s.sameRegs t

namespace State.EntersTrap

theorem raise {c : Cause} (ho : c = .arithmeticOverflow → s.params.overflowTrap = true) : s.EntersTrap c (s.raise c) :=
  ⟨ho, rfl, rfl, rfl, rfl, rfl, rfl, rfl, rfl, rfl, rfl⟩

/-- A refused access enters its trap after the request has gone out and the link has been given its value (R204). -/
theorem raise_dataFault (s : State) (e : Event) (link : Bool) :
    s.EntersTrap .dataFault (((s.emit e).setLink link).raise .dataFault) :=
  ⟨nofun, rfl, rfl, rfl, rfl, rfl, rfl, rfl, rfl, rfl, rfl⟩

/-- The external interrupt is taken at the boundary, before any fetch (R210, R212). -/
theorem raise_externalInterrupt (s : State) (n : CpNum) :
    s.EntersTrap (.externalInterrupt n) (s.atBoundary.raise (.externalInterrupt n)) :=
  ⟨nofun, rfl, rfl, rfl, rfl, rfl, rfl, rfl, rfl, rfl, rfl⟩

/-- The boundary and the fetch change nothing a trap entry reads or keeps. -/
theorem of_fetched {c : Cause} (h : s.fetched.EntersTrap c t) : s.EntersTrap c t := by
  obtain ⟨ho, hpc, hepc, hsaved, hm, he, hu, hs, ha, hregs⟩ := h
  refine ⟨ho, hpc.trans ?handler, hepc.trans ?resume, hsaved, hm, he, hu, hs, ha.trans ?argument, hregs⟩
  case handler => cases c <;> rfl
  case resume => cases c <;> rfl
  case argument => cases c <;> rfl

end State.EntersTrap

/-! ## Changes of mode (R220, R222) -/

/-- R222 for one instruction: it keeps STATUS.M, or is an `rfi` that restores it, or an `mtctl` that writes it, or enters a
trap. -/
theorem exec_mode {i : Instr} (h : exec i s = .next t) :
    t.status.m = s.status.m ∨
    (i = .rfi ∧ s.status.m = false ∧ t.status.m = s.status.u) ∨
    (∃ src, i = .mtctl src .status ∧ s.status.m = false ∧ t.status.m = (s.reg src).getLsbD 15) ∨
    ∃ c, s.EntersTrap c t := by
  cases exec_did h with
  | trapped c ho h => exact .inr (.inr (.inr ⟨c, h ▸ .raise ho⟩))
  | loadFaulted v a off _ _ h | storeFaulted v a off _ _ h =>
    exact .inr (.inr (.inr ⟨.dataFault, h ▸ .raise_dataFault s _ false⟩))
  | conditionalFaulted v a off _ _ _ h =>
    exact .inr (.inr (.inr ⟨.dataFault, h ▸ .raise_dataFault s _ s.status.l⟩))
  | wroteControl src c hi hm h =>
    by_cases hc : c = .status
    case pos =>
      subst hc h
      exact .inr (.inr (.inl ⟨src, hi, hm, rfl⟩))
    case neg => exact .inl (by simp [h, hc])
  | returned hi hm h => exact .inr (.inl ⟨hi, hm, by simp [h]⟩)
  | wrote d v h | jumped p h | linked p h | loaded v a off _ _ h | stored v a off _ _ h
  | storedConditionally v a off _ _ _ h | readCoprocessor d n r _ _ h | wroteCoprocessor src n r _ _ h
  | executedCoprocessor p n _ _ h =>
    exact .inl (by simp [h])

/-- R222 for one step. -/
theorem step_mode (h : step s = .next t) :
    t.status.m = s.status.m ∨
    (s.runs .rfi ∧ s.status.m = false ∧ t.status.m = s.status.u) ∨
    (∃ src, s.runs (.mtctl src .status) ∧ s.status.m = false ∧ t.status.m = (s.reg src).getLsbD 15) ∨
    ∃ c, s.EntersTrap c t := by
  rcases step_next h with ⟨n, _, rfl⟩ | ⟨_, rfl | rfl⟩ | ⟨i, hr, hi⟩
  · exact .inr (.inr (.inr ⟨_, .raise_externalInterrupt s n⟩))
  · exact .inr (.inr (.inr ⟨_, .of_fetched (.raise nofun)⟩))
  · exact .inr (.inr (.inr ⟨_, .of_fetched (.raise nofun)⟩))
  · rcases exec_mode hi with hm | ⟨rfl, hm⟩ | ⟨src, rfl, hm⟩ | ⟨c, hc⟩
    · exact .inl hm
    · exact .inr (.inl ⟨hr, hm⟩)
    · exact .inr (.inr (.inl ⟨src, hr, hm⟩))
    · exact .inr (.inr (.inr ⟨c, hc.of_fetched⟩))

/-- Settles O48, by the four ways of `step_mode`: to user mode only `rfi` and `mtctl` lead, to supervisor mode only a trap
entry. -/
theorem modeChangesOnlyAsListed : Obligations.ModeChangesOnlyAsListed := by
  intro s t h
  refine ⟨fun hs ht => ?toUser, fun hs ht => ?toSupervisor⟩
  case toUser =>
    rcases step_mode h with hm | ⟨hr, _, hm⟩ | ⟨src, hr, _, hm⟩ | ⟨c, hc⟩
    · simp [hm, hs] at ht
    · exact .inl ⟨hr, hm ▸ ht⟩
    · exact .inr ⟨src, hr, hm ▸ ht⟩
    · simp [hc.mode] at ht
  case toSupervisor =>
    rcases step_mode h with hm | ⟨_, hsup, _⟩ | ⟨_, _, hsup, _⟩ | ⟨c, hc⟩
    · simp [hm, hs] at ht
    · simp [hsup] at hs
    · simp [hsup] at hs
    · exact ⟨⟨c, hc.pc, hc.epc, hc.argument, hc.enabled⟩, hc.pc ▸ s.handler_mem c, hc.epc ▸ s.resumeAddress_mem c,
        hc.epcSaved, hc.previousMode.trans hs, hc.interrupts, hc.savedMode, hc.regs⟩

/-! ## The table of traps and the return from them (R200, R208, R216, R217) -/

/-- Settles O47: each row of the table is the trap entry of its cause. -/
theorem trapTable : Obligations.TrapTable := fun s arg n =>
  ⟨s.trapTaken_raise .instructionFetchFault, s.trapTaken_raise .dataFault, s.trapTaken_raise (.softwareInterrupt arg),
    s.trapTaken_raise .illegalOperation, s.trapTaken_raise .privilegedOperation,
    s.trapTaken_raise (.coprocessorDisabled n), s.trapTaken_raise (.externalInterrupt n)⟩

/-- Settles O42: the three instructions make the same check of the mode before anything else. -/
theorem privilegedInstructionsTrapInUserMode : Obligations.PrivilegedInstructionsTrapInUserMode := by
  rintro r c s _ hm (rfl | rfl | rfl)
  · exact ⟨_, exec_rfi_user hm, s.trapTaken_raise .privilegedOperation⟩
  · exact ⟨_, State.privileged_user hm _, s.trapTaken_raise .privilegedOperation⟩
  · exact ⟨_, State.privileged_user hm _, s.trapTaken_raise .privilegedOperation⟩

/-- Settles O45: the entry leaves the machine in supervisor mode, so the `rfi` completes, and takes M, U and EPC from where the
entry has saved them. -/
theorem returnUndoesTrapEntry : Obligations.ReturnUndoesTrapEntry := by
  intro c s
  obtain ⟨_, _, _, _, hregs, hhandlers, hmemory, hplatform, hpins⟩ := s.trapTaken_raise c
  exact ⟨_, exec_rfi_supervisor rfl, rfl, rfl, rfl, rfl, rfl, rfl, rfl, rfl, hregs, hhandlers, hmemory, hplatform, hpins⟩

/-- Settles O46: the second entry saves EPC and STATUS.U, which the first `rfi` restores for the second. -/
theorem twoNestedTrapsUnwind : Obligations.TwoNestedTrapsUnwind := by
  intro c c' s h hepc hu hm
  have hresumed : (h.raise c').returnFromTrap.status.m = false := hm
  exact ⟨_, exec_rfi_supervisor rfl, rfl, hresumed, _, exec_rfi_supervisor hresumed, hepc, hu⟩

end Sys2Proof.Machine
end

section
/-! PROOFS. The step (spec/60_exceptions.md R201 to R218): which interrupt is accepted at a boundary, what the step is where one is
accepted and where none is, and that only the two silent buses and the two refusing parameters stop it. -/

namespace Sys2Proof.Machine

/-! ## The accepted interrupt (R206, R210, R213) -/

/-- The sources in the order in which the boundary asks them: the highest-numbered first (R213). -/
def CpNum.descending : List CpNum := [.cp7, .cp6, .cp5, .cp4, .cp3, .cp2, .cp1, .cp0]

theorem CpNum.mem_descending (n : CpNum) : n ∈ descending := by cases n <;> decide

theorem CpNum.pairwise_descending : descending.Pairwise (fun m n => n.bits.toNat < m.bits.toNat) := by decide

section Interrupts

variable {s : State}

theorem State.deliverable_iff {n : CpNum} :
    s.deliverable n = true ↔ numberedBit s.ienable n = true ∧ s.pin n = true := by
  simp [State.deliverable]

theorem State.highestDeliverable_eq_find? (s : State) :
    s.highestDeliverable = CpNum.descending.find? s.deliverable := by
  simp only [State.highestDeliverable, CpNum.descending, List.find?_cons, List.find?_nil]
  repeat' split
  all_goals simp_all

/-- A deliverable source above which none is deliverable is the highest one: a source found before it would be above it. -/
theorem State.highestDeliverable_eq_some {n : CpNum} (hn : s.deliverable n = true)
    (hmax : ∀ m : CpNum, n.bits.toNat < m.bits.toNat → ¬ s.deliverable m = true) : s.highestDeliverable = some n := by
  obtain ⟨before, after, hsplit⟩ := List.append_of_mem (CpNum.mem_descending n)
  obtain ⟨_, _, habove⟩ := List.pairwise_append.1 (hsplit ▸ CpNum.pairwise_descending)
  have hbefore : ∀ m ∈ before, n.bits.toNat < m.bits.toNat := fun m hm => habove m hm n List.mem_cons_self
  rw [State.highestDeliverable_eq_find?, List.find?_eq_some_iff_append]
  exact ⟨hn, before, after, hsplit, fun m hm => by simpa using hmax m (hbefore m hm)⟩

theorem State.highestDeliverable_eq_none (h : ∀ n, ¬ s.deliverable n = true) : s.highestDeliverable = none := by
  rw [State.highestDeliverable_eq_find?, List.find?_eq_none]
  exact fun n _ => h n

/-- The test of a boundary where STATUS.E is set (R210). -/
theorem State.acceptedInterrupt_enabled (he : s.status.e = true) : s.acceptedInterrupt = s.highestDeliverable := by
  simp [State.acceptedInterrupt, he]

/-- STATUS.E clear: no interrupt (D18). -/
theorem State.acceptedInterrupt_disabled (he : s.status.e = false) : s.acceptedInterrupt = none := by
  simp [State.acceptedInterrupt, he]

theorem State.acceptedInterrupt_none_deliverable (h : ∀ n, ¬ s.deliverable n = true) : s.acceptedInterrupt = none := by
  simp [State.acceptedInterrupt, State.highestDeliverable_eq_none h]

/-! ## The step by its branches (R212) -/

/-- An accepted interrupt is the whole step. -/
theorem step_of_interrupt {n : CpNum} (hn : s.atBoundary.acceptedInterrupt = some n) :
    step s = .next (s.atBoundary.raise (.externalInterrupt n)) := by
  simp [step, State.cycle, hn]

theorem step_of_no_interrupt (hn : s.atBoundary.acceptedInterrupt = none) : step s = s.fetched.runFetched := by
  simp [step, State.cycle, hn]

/-- A refused fetch traps (R201). -/
theorem State.runFetched_refuses (hf : s.fetchAnswer = .refuses) :
    s.runFetched = .next (s.raise .instructionFetchFault) := by
  simp [State.runFetched, hf]

/-- A fetch that is never answered (U9). -/
theorem State.runFetched_silent (hf : s.fetchAnswer = .silent) : s.runFetched = .fault .instructionBusSilent := by
  simp [State.runFetched, hf]

theorem State.runFetched_answers (hf : s.fetchAnswer = .answers) : s.runFetched = s.runWord s.fetchedWord := by
  simp [State.runFetched, hf]

end Interrupts

/-- Settles O11: the source is the highest deliverable one of the boundary's state, whose trap is the whole step. -/
theorem highestDeliverableInterruptIsTaken : Obligations.HighestDeliverableInterruptIsTaken := by
  intro s n he hn hpin hmax
  have haccepted : s.atBoundary.acceptedInterrupt = some n := by
    rw [State.acceptedInterrupt_enabled (s := s.atBoundary) he]
    exact State.highestDeliverable_eq_some (State.deliverable_iff.2 ⟨hn, hpin⟩)
      fun m hm hd => hmax m hm (State.deliverable_iff.1 hd)
  exact ⟨_, step_of_interrupt haccepted, s.atBoundary.trapTaken_raise (.externalInterrupt n)⟩

/-- Settles O12: in both cases the boundary's test answers `none`, so the step goes on to the fetch. -/
theorem disabledOrMaskedInterruptsAreNotTaken : Obligations.DisabledOrMaskedInterruptsAreNotTaken := by
  intro s h
  have hnone : s.atBoundary.acceptedInterrupt = none := by
    rcases h with he | hmasked
    · exact State.acceptedInterrupt_disabled he
    · exact State.acceptedInterrupt_none_deliverable fun n hd => hmasked n (State.deliverable_iff.1 hd)
  exact ⟨hnone, step_of_no_interrupt hnone⟩

/-- Settles O6: the hypotheses say that the step runs the instruction. -/
theorem stepRunsTheDecodedInstruction : Obligations.StepRunsTheDecodedInstruction :=
  fun _ _ hn hf hd => step_of_runs ⟨hn, hf, .inl hd⟩

/-- Settles O8, by the controller's answer to the fetch. -/
theorem fetchFaultTraps : Obligations.FetchFaultTraps := by
  intro s hn
  rw [step_of_no_interrupt hn]
  exact ⟨fun hf => ⟨_, State.runFetched_refuses hf, s.fetched.trapTaken_raise .instructionFetchFault⟩,
    State.runFetched_silent⟩

/-! ## Where there is a next state (R218, R266) -/

section Next

variable {s : State}

/-- A choice between two next states is a next state. -/
theorem exists_next_ite (c : Prop) [Decidable c] (t u : State) :
    ∃ v, (if c then .next t else .next u : Host.Outcome State Fault Refusal) = .next v := by
  split <;> exact ⟨_, rfl⟩

theorem registerAmount_isSome {policy : Config.ShiftAmount} (h : policy ≠ .refuse) (x : Word) :
    ∃ n, registerAmount policy x = some n := by
  cases policy with
  | full | low4 => exact ⟨_, rfl⟩
  | refuse => exact absurd rfl h

theorem shiftByReg_exists_next (h : s.params.shiftAmount ≠ .refuse) (f : Word → Nat → Word) (d a b : Reg) :
    ∃ t, shiftByReg f d a b s = .next t := by
  obtain ⟨n, hn⟩ := registerAmount_isSome h (s.reg b)
  exact ⟨_, by rw [shiftByReg, hn]⟩

/-- The fixed fault predicates make no controller silent (D2). -/
theorem controllerAnswer_ne_silent {bus : BusAnswer} (h : bus ≠ .silent) (regions : List Region) (a : Word) :
    controllerAnswer bus regions a ≠ .silent := by
  cases bus with
  | answers => cases hr : refusedBy regions a <;> simp [controllerAnswer, hr]
  | refuses => simp [controllerAnswer]
  | silent => exact absurd rfl h

theorem State.access_exists_next (h : s.now.dataBus ≠ .silent) (addr : Word) (completed faulted : State) :
    ∃ t, s.access addr completed faulted = .next t := by
  cases ha : s.dataAnswer addr with
  | answers => exact ⟨_, State.access_answers ha _ _⟩
  | refuses => exact ⟨_, State.access_refuses ha _ _⟩
  | silent => exact absurd ha (controllerAnswer_ne_silent h _ _)

/-- An instruction stops the machine only by a register shift or a data access. -/
theorem exec_exists_next (hbus : s.now.dataBus ≠ .silent) (hshift : s.params.shiftAmount ≠ .refuse) (i : Instr) :
    ∃ t, exec i s = .next t := by
  cases i with
  | add d a b | sub d a b => exact exists_next_ite _ _ _
  | shl d a b | shr d a b | shra d a b => exact shiftByReg_exists_next hshift _ d a b
  | ldw v a off | stw v a off => exact State.access_exists_next hbus _ _ _
  | sc v a off =>
    cases hl : s.status.l with
    | true =>
      simp only [exec, execSc, hl, if_true]
      exact State.access_exists_next hbus _ _ _
    | false => exact ⟨_, exec_sc_unlinked hl⟩
  | mfcp d n r | mtcp d n r | cpop d n => exact exists_next_ite _ _ _
  | rfi | mfctl d c | mtctl d c => exact exists_next_ite _ _ _
  | _ => exact ⟨_, rfl⟩

/-- A fetched word stops the machine only by its instruction or by `MBZ_POLICY` (D5). -/
theorem State.runWord_exists_next (hbus : s.now.dataBus ≠ .silent) (hp : s.nothingRefused) (w : Word) :
    ∃ t, s.runWord w = .next t := by
  obtain ⟨hmbz, hshift⟩ := hp
  unfold State.runWord
  split
  case h_1 i _ => exact exec_exists_next hbus hshift i
  case h_2 => exact ⟨_, rfl⟩
  case h_3 i _ =>
    split
    case h_1 hrefuse => exact absurd hrefuse hmbz
    case h_2 => exact exec_exists_next hbus hshift i
    case h_3 => exact ⟨_, rfl⟩

end Next

/-- Settles O55, by the branches of the step: an interrupt, a refused fetch, or the fetched word. -/
theorem everyStepHasANextState : Obligations.EveryStepHasANextState := by
  rintro s ⟨hfetch, hdata⟩ hp
  cases hn : s.atBoundary.acceptedInterrupt with
  | some n => exact ⟨_, step_of_interrupt hn⟩
  | none =>
    rw [step_of_no_interrupt hn]
    cases hf : s.fetched.fetchAnswer with
    | answers =>
      rw [State.runFetched_answers hf]
      exact State.runWord_exists_next (s := s.fetched) hdata hp _
    | refuses => exact ⟨_, State.runFetched_refuses hf⟩
    | silent => exact absurd hf (controllerAnswer_ne_silent hfetch _ _)

end Sys2Proof.Machine
end

section
/-! PROOFS. The NVRAM coprocessor (spec/60_exceptions.md R238): the end of a read and of a write by the bounds of the address, the
two procedures, and the instructions that reach an attached device. -/

namespace Sys2Proof.Machine

/-! ## The device's operations -/

section Device

variable {d : Nvram}

/-- The address counts the high register in units of 2^16 (R238). -/
theorem Nvram.address_eq (d : Nvram) : d.address = d.addrHi.toNat * 2 ^ 16 + d.addrLo.toNat := by
  rw [Nvram.address, BitVec.toNat_append, ← Nat.shiftLeft_add_eq_or_of_lt d.addrLo.isLt, Nat.shiftLeft_eq]

theorem Nvram.advance_read_done (h : d.pending = some .read) : d.advance .done = d.finishRead false := by
  simp [Nvram.advance, h]

theorem Nvram.advance_write_done (h : d.pending = some .write) : d.advance .done = d.finishWrite false := by
  simp [Nvram.advance, h]

theorem Nvram.finishRead_inBounds (h : d.address < d.size) :
    d.finishRead false =
      { d with pending := none, int := true, status := 2, value := d.cells.read d.address } := by
  simp [Nvram.finishRead, h]

theorem Nvram.finishRead_outOfBounds (h : d.size ≤ d.address) :
    d.finishRead false = { d with pending := none, int := true, status := 3 } := by
  simp [Nvram.finishRead, h]

theorem Nvram.finishWrite_inBounds (h : d.address < d.size) :
    d.finishWrite false =
      { d with pending := none, int := true, status := 5, cells := d.cells.write d.address d.value } := by
  simp [Nvram.finishWrite, h]

theorem Nvram.finishWrite_outOfBounds (h : d.size ≤ d.address) :
    d.finishWrite false = { d with pending := none, int := true, status := 6 } := by
  simp [Nvram.finishWrite, h]

end Device

/-! ## The procedures of R238 -/

/-- The device once a read of an address has been sent to it (R238). -/
def Nvram.reading (d : Nvram) (lo hi : Word) : Nvram :=
  { d with addrLo := lo, addrHi := hi, pending := some .read, status := 1 }

theorem Nvram.reading_eq (d : Nvram) (lo hi free : Word) :
    ((d.writeReg 1 lo).writeReg 2 hi).execute 0 free = d.reading lo hi := rfl

/-- The device once a write of a value to an address has been sent to it (R238). -/
def Nvram.writing (d : Nvram) (lo hi v : Word) : Nvram :=
  { d with addrLo := lo, addrHi := hi, value := v, pending := some .write, status := 4 }

theorem Nvram.writing_eq (d : Nvram) (lo hi v free : Word) :
    (((d.writeReg 1 lo).writeReg 2 hi).writeReg 3 v).execute 1 free = d.writing lo hi v := rfl

/-- Settles O56, by the bounds: the read ends with the cell and `read ok`, or with `read error`. -/
theorem nvramReadProcedure : Obligations.NvramReadProcedure := by
  intro d lo hi v free
  have haddress : (d.reading lo hi).address = hi.toNat * 2 ^ 16 + lo.toNat := (d.reading lo hi).address_eq
  refine ⟨d.reading_eq lo hi free, ?inBounds, ?outOfBounds⟩
  case inBounds =>
    rintro ⟨hbound, rfl⟩ e rfl
    rw [d.reading_eq, Nvram.advance_read_done rfl, Nvram.finishRead_inBounds (haddress ▸ hbound), haddress]
    exact ⟨rfl, rfl, rfl, rfl, rfl, rfl⟩
  case outOfBounds =>
    rintro hbound e rfl
    rw [d.reading_eq, Nvram.advance_read_done rfl, Nvram.finishRead_outOfBounds (haddress ▸ hbound)]
    exact ⟨rfl, rfl, rfl⟩

/-- Settles O57, by the bounds: the write ends with the cell written and `write ok`, or with `write error`. -/
theorem nvramWriteProcedure : Obligations.NvramWriteProcedure := by
  rintro d e lo hi v free rfl
  have haddress : (d.writing lo hi v).address = hi.toNat * 2 ^ 16 + lo.toNat := (d.writing lo hi v).address_eq
  rw [d.writing_eq, Nvram.advance_write_done rfl]
  refine ⟨rfl, ?pin, fun hbound => ?inBounds, fun hbound => ?outOfBounds⟩
  case pin =>
    rcases Nat.lt_or_ge (d.writing lo hi v).address (d.writing lo hi v).size with hbound | hbound
    · rw [Nvram.finishWrite_inBounds hbound]
    · rw [Nvram.finishWrite_outOfBounds hbound]
  case inBounds =>
    rw [Nvram.finishWrite_inBounds (haddress ▸ hbound), haddress]
    refine ⟨rfl, ?_, fun a ha => ?_⟩
    · exact (Memory.read_write _ _ _ _).trans (if_pos rfl)
    · exact (Memory.read_write _ _ _ _).trans (if_neg ha)
  case outOfBounds =>
    rw [Nvram.finishWrite_outOfBounds (haddress ▸ hbound)]
    exact ⟨rfl, rfl⟩

/-! ## Reaching an attached device (R180 to R183, R191) -/

section Attached

variable {s : State} {d : Nvram}

theorem State.checked_allowed {n : CpNum} (h : s.status.m = false ∨ numberedBit s.umcpen n = true) (completed : State) :
    s.checked n completed = .next completed := by
  rcases h with h | h <;> simp [State.checked, State.coprocessorDenied, h]

theorem Nvram.select_number (d : Nvram) (f : Nvram → Nvram) : d.select d.number f = f d := if_pos rfl

theorem State.pin_attached (hd : s.nvram = some d) : s.pin d.number = d.int := by
  simp [State.pin, hd]

theorem State.cpReadValue_attached (hd : s.nvram = some d) (k : BitVec 5) :
    s.cpReadValue d.number k = d.readReg k s.now.draws.cvali := by
  simp [State.cpReadValue, hd]

theorem State.cpWrite_attached (hd : s.nvram = some d) (k : BitVec 5) (v : Word) :
    (s.cpWrite d.number k v).nvram = some (d.writeReg k v) := by
  rw [State.cpWrite_nvram, hd, Option.map_some, Nvram.select_number]

theorem State.cpExec_attached (hd : s.nvram = some d) (v : Word) :
    (s.cpExec d.number v).nvram = some (d.execute v s.now.draws.openBits) := by
  rw [State.cpExec_nvram, hd, Option.map_some, Nvram.select_number]

end Attached

/-- Settles O58: where the access is not denied, each instruction is its one operation on the device and the next `pc`. -/
theorem nvramIsReachedByCoprocessorInstructions : Obligations.NvramIsReachedByCoprocessorInstructions := by
  intro s d r k hd
  refine ⟨State.pin_attached hd, by simp [hd], fun hallowed => ⟨?mfcp, ?mtcp, ?cpop⟩⟩
  case mfcp =>
    refine ⟨_, State.checked_allowed hallowed _, ?value, hd⟩
    case value => rw [State.reg_writeNext, if_pos rfl, State.cpReadValue_attached hd]
  case mtcp => exact ⟨_, State.checked_allowed hallowed _, State.cpWrite_attached hd k _⟩
  case cpop => exact ⟨_, State.checked_allowed hallowed _, State.cpExec_attached hd _⟩

end Sys2Proof.Machine
end

section
/-! PROOFS. Reset and the instruction boundary (spec/70_reset_and_hazards.md R250, R267): the cleared registers, where a boundary's
sample is from, and what a boundary makes of the cycle counter and of data memory. -/

namespace Sys2Proof.Machine

/-! ## The cleared registers (R50) -/

@[simp] theorem zeroBank_get (r : Reg) : zeroBank.get r = 0 := by cases r <;> rfl

@[simp] theorem zeroHandlers_get (n : CpNum) : zeroHandlers.get n = 0 := by cases n <;> rfl

theorem zeroStatus_toWord : zeroStatus.toWord = 0 := by decide

/-- Settles O14: the banks and the handler registers by `zeroBank_get` and `zeroHandlers_get`, the first fetch by
`State.fetched_events`; the other registers are fields of `State.reset`. -/
theorem resetClearsEveryRegister : Obligations.ResetClearsEveryRegister := by
  refine ⟨fun r => ⟨zeroBank_get r, zeroBank_get r⟩, rfl, rfl, rfl, zeroStatus_toWord, rfl, rfl, rfl, rfl, rfl, rfl, rfl, rfl,
    zeroHandlers_get, rfl, rfl, rfl, rfl, ?firstFetch⟩
  case firstFetch => exact State.reset.fetched_events

/-! ## The sample (R267) -/

section Sample

variable {s : State}

theorem State.sample_scripted {b : Boundary} {bs : List Boundary} (h : s.inputs = b :: bs) : s.sample = b := by
  simp [State.sample, h]

theorem State.sample_free (h : s.inputs = []) :
    s.sample =
      { draws := Config.environment s.boundaries, instrBus := .answers, dataBus := .answers, busWrites := [] } := by
  simp [State.sample, h]

end Sample

/-! ## What the boundary writes (R44, R87) -/

theorem State.fetched_counter (s : State) :
    (s.fetched.counterHi ++ s.fetched.counterLo : BitVec 32) = s.sample.draws.counter :=
  (BitVec.extractLsb'_append_extractLsb'_eq_extractLsb' rfl).trans BitVec.extractLsb'_eq_self

/-- A word written, and not written again after that, reads as written, whatever the writes before it. -/
theorem Memory.read_writeAll_last (m : Memory) (ps qs : List (Word × Word)) (a v : Word) (hqs : ∀ p ∈ qs, p.1 ≠ a) :
    (m.writeAll (ps ++ (a, v) :: qs)).read a.toNat = v := by
  have hlater : ∀ p ∈ qs, p.1.toNat ≠ a.toNat := fun p hp heq => hqs p hp (BitVec.eq_of_toNat_eq heq)
  rw [Memory.writeAll_append, Memory.writeAll, Memory.read_writeAll_other _ _ _ hlater, Memory.read_write, if_pos rfl]

/-- Settles O7: the sample by whether one is scripted, data memory by whether other masters wrote the address, and the rest field
by field (the lemmas of `State.fetched`). -/
theorem boundaryLeavesTheCpuUnchanged : Obligations.BoundaryLeavesTheCpuUnchanged := by
  intro s
  refine ⟨s.fetched_now, s.fetched_inputs, s.fetched_boundaries, fun b bs => State.sample_scripted, fun hfree => ?free,
    s.fetched_status, s.fetched_counter, fun a hother => ?unwritten, fun a v ps qs hwrites hlast => ?written,
    s.fetched_nvram, s.fetched_events, ⟨s.fetched_xu, s.fetched_xs⟩, ?frame⟩
  case free =>
    rw [State.sample_free hfree]
    exact ⟨rfl, rfl, rfl, rfl⟩
  case unwritten => rw [State.fetched_dmem, Memory.read_writeAll_other _ _ _ hother]
  case written => rw [State.fetched_dmem, hwrites, Memory.read_writeAll_last _ _ _ _ _ hlast]
  case frame => simp

end Sys2Proof.Machine
end

section
/-! PROOFS. What every step keeps (spec/20_memory.md R70 to R93): the canonical form of the memories (logs 1 and 2), and instruction
memory, the fault predicates and the parameters as they are. -/

namespace Sys2Proof.Machine

/-! ## The cells of an attached device (R238) -/

section Device

variable (d : Nvram)

theorem Nvram.writeReg_cells (r : BitVec 5) (v : Word) : (d.writeReg r v).cells = d.cells := by
  unfold Nvram.writeReg
  split <;> rfl

theorem Nvram.execute_cells (op free : Word) : (d.execute op free).cells = d.cells := by
  unfold Nvram.execute
  split <;> rfl

theorem Nvram.select_cells (n : CpNum) {f : Nvram → Nvram} (hf : (f d).cells = d.cells) :
    (d.select n f).cells = d.cells := by
  unfold Nvram.select
  split
  · exact hf
  · rfl

/-- No instruction that reaches a device changes its cells: they change at boundaries only. -/
theorem map_select_cells (dev : Option Nvram) (n : CpNum) {f : Nvram → Nvram} (hf : ∀ d, (f d).cells = d.cells) :
    (dev.map (Nvram.select n f)).map Nvram.cells = dev.map Nvram.cells := by
  rw [Option.map_map]
  exact congrArg (dev.map ·) (funext fun d => d.select_cells n (hf d))

variable {d}

theorem Nvram.finishRead_cells (failed : Bool) : (d.finishRead failed).cells = d.cells := by
  unfold Nvram.finishRead
  split <;> rfl

/-- The device's address has 32 bits, so whatever its size the cell written is one of the 2^32. -/
theorem Nvram.finishWrite_wf (h : d.cells.wf (2 ^ 32)) (failed : Bool) : (d.finishWrite failed).cells.wf (2 ^ 32) := by
  unfold Nvram.finishWrite
  split
  · exact h
  · exact Memory.wf_write h (d.addrHi ++ d.addrLo).isLt d.value

theorem Nvram.advance_wf (h : d.cells.wf (2 ^ 32)) (answer : Config.NvramAnswer) :
    (d.advance answer).cells.wf (2 ^ 32) := by
  unfold Nvram.advance
  split
  case h_1 | h_2 => exact h
  case h_3 | h_4 => rwa [Nvram.finishRead_cells]
  case h_5 | h_6 => exact Nvram.finishWrite_wf h _

end Device

/-! ## The canonical form (logs 1 and 2) -/

section Form

variable {s t : State}

/-- The form is of the three memories alone: a state with the same instruction memory and the same device cells has it, if its
data memory has. -/
theorem State.wf_of_memories (hs : s.wf) (himem : t.imem = s.imem) (hdmem : t.dmem.wf (2 ^ 16))
    (hcells : t.nvram.map Nvram.cells = s.nvram.map Nvram.cells) : t.wf := by
  obtain ⟨hinstr, -, hdevice⟩ := hs
  refine ⟨himem ▸ hinstr, hdmem, fun e he => ?_⟩
  rw [he, Option.map_some, eq_comm, Option.map_eq_some_iff] at hcells
  obtain ⟨d, hd, hde⟩ := hcells
  exact hde ▸ hdevice d hd

theorem State.dmem_wf (hs : s.wf) : s.dmem.wf (2 ^ 16) := hs.2.1

theorem State.raise_wf (hs : s.wf) (c : Cause) : (s.raise c).wf := State.wf_of_memories hs rfl (State.dmem_wf hs) rfl

/-- The boundary writes data memory (R87) and moves the device (R238). -/
theorem State.atBoundary_wf (hs : s.wf) : s.atBoundary.wf := by
  obtain ⟨hinstr, hdata, hdevice⟩ := hs
  refine ⟨hinstr, Memory.wf_writeAll hdata _, fun e he => ?_⟩
  obtain ⟨d, hd, rfl⟩ := Option.map_eq_some_iff.1 he
  exact Nvram.advance_wf (hdevice d hd) _

theorem State.fetched_wf (hs : s.wf) : s.fetched.wf :=
  have hb := State.atBoundary_wf hs
  State.wf_of_memories hb rfl (State.dmem_wf hb) rfl

end Form

/-! ## What an instruction leaves as it was -/

section Instruction

variable {s t : State} {i : Instr}

theorem exec_cells (h : exec i s = .next t) : t.nvram.map Nvram.cells = s.nvram.map Nvram.cells := by
  cases exec_did h with
  | wroteCoprocessor src n r _ _ h =>
    rw [h, State.advance_nvram, State.cpWrite_nvram, map_select_cells _ _ fun d => d.writeReg_cells r _]
  | executedCoprocessor p n _ _ h =>
    rw [h, State.advance_nvram, State.cpExec_nvram, map_select_cells _ _ fun d => d.execute_cells _ _]
  | wrote d v h | jumped p h | linked p h | trapped c _ h | loaded v a off _ _ h | loadFaulted v a off _ _ h
  | stored v a off _ _ h | storeFaulted v a off _ _ h | storedConditionally v a off _ _ _ h
  | conditionalFaulted v a off _ _ _ h | readCoprocessor d n r _ _ h | wroteControl src c _ _ h | returned _ _ h =>
    simp [h]

/-- From `s` to `t` nothing is done to what no step may write: instruction memory (R93), the fault predicates (D2) and the
parameters (R6). -/
structure State.FixedParts (s t : State) : Prop where
  imem : t.imem = s.imem
  ifaults : t.ifaults = s.ifaults
  dfaults : t.dfaults = s.dfaults
  params : t.params = s.params

/-- No operation of the model writes the fixed parts, whichever an instruction is made of. -/
theorem exec_fixedParts (h : exec i s = .next t) : s.FixedParts t := by
  cases exec_did h with
  | wrote d v h | jumped p h | linked p h | trapped c _ h | loaded v a off _ _ h | loadFaulted v a off _ _ h
  | stored v a off _ _ h | storeFaulted v a off _ _ h | storedConditionally v a off _ _ _ h
  | conditionalFaulted v a off _ _ _ h | readCoprocessor d n r _ _ h | wroteCoprocessor src n r _ _ h
  | executedCoprocessor p n _ _ h | wroteControl src c _ _ h | returned _ _ h =>
    constructor <;> simp [h]

theorem exec_dmem_wf (hs : s.dmem.wf (2 ^ 16)) (h : exec i s = .next t) : t.dmem.wf (2 ^ 16) := by
  rcases exec_dmem h with hd | ⟨v, b, off, -, hd⟩
  · rwa [hd]
  · rw [hd]
    exact Memory.wf_write hs (s.dataAddress b off).isLt _

theorem exec_wf (hs : s.wf) (h : exec i s = .next t) : t.wf :=
  State.wf_of_memories hs (exec_fixedParts h).imem (exec_dmem_wf (State.dmem_wf hs) h) (exec_cells h)

end Instruction

/-! ## The statements -/

/-- Settles O52: nothing is listed in either memory, and no device is attached. -/
theorem resetMemoryForm : Obligations.ResetMemoryForm := ⟨Memory.wf_nil _, Memory.wf_nil _, nofun⟩

/-- Settles O51, by the ways a step can go: the boundary keeps the form, a trap entry touches no memory, and an instruction writes
at most one word. -/
theorem stepKeepsMemoryForm : Obligations.StepKeepsMemoryForm := by
  intro s t hs h
  rcases step_next h with ⟨n, _, rfl⟩ | ⟨_, rfl | rfl⟩ | ⟨i, _, hi⟩
  · exact State.raise_wf (State.atBoundary_wf hs) _
  · exact State.raise_wf (State.fetched_wf hs) _
  · exact State.raise_wf (State.fetched_wf hs) _
  · exact exec_wf (State.fetched_wf hs) hi

/-- Settles O53, by the ways a step can go: neither the boundary nor a trap entry writes the fixed parts, and no instruction
does. -/
theorem stepNeverWritesInstructionMemory : Obligations.StepNeverWritesInstructionMemory := by
  intro s t h
  rcases step_next h with ⟨n, _, rfl⟩ | ⟨_, rfl | rfl⟩ | ⟨i, _, hi⟩
  · exact ⟨rfl, rfl, rfl, rfl⟩
  · exact ⟨rfl, rfl, rfl, rfl⟩
  · exact ⟨rfl, rfl, rfl, rfl⟩
  · obtain ⟨himem, hifaults, hdfaults, hparams⟩ := exec_fixedParts hi
    exact ⟨himem, hifaults, hdfaults, hparams⟩

end Sys2Proof.Machine
end

section
/-! PROOFS. Words without a meaning of their own (spec/30_encoding.md R105, R106), and the run that has finished
(92_eei_decisions.md D21). -/

namespace Sys2Proof.Machine

/-! ## Must-be-zero violations and the row table (R103, R106) -/

/-- The decoder answers a violation for a row's word with a one in the row's must-be-zero field, and names the instruction of the
word with that field cleared. -/
theorem decode_mustBeZero_iff {w : Word} {i : Instr} : decode w = .mustBeZero i ↔
    ∃ r ∈ WellFormed.rows, WellFormed.selects w r = true ∧ w &&& r.mbz ≠ 0 ∧ decode (w &&& ~~~r.mbz) = .ok i := by
  constructor
  · intro hd
    obtain ⟨r, hr, hwr, hset, hi⟩ := agreesWith_of_decode hd
    exact ⟨r, hr, hwr, beq_eq_false_iff_ne.1 hset, decode_eq_ok_of_encode hi⟩
  · rintro ⟨r, hr, hwr, hset, hcleared⟩
    cases hd : decode w with
    | ok j =>
      obtain ⟨q, hq, hwq, hclear⟩ := WellFormed.word_iff.1 (decode_ok_iff_word.1 ⟨j, hd⟩)
      rw [WellFormed.selects_unique hq hr hwq hwr] at hclear
      exact absurd (beq_iff_eq.1 hclear) hset
    | mustBeZero j =>
      obtain ⟨q, hq, hwq, -, hj⟩ := agreesWith_of_decode hd
      rw [WellFormed.selects_unique hq hr hwq hwr] at hj
      rw [Decoded.ok.inj ((decode_eq_ok_of_encode hj).symm.trans hcleared)]
    | unassigned =>
      have hnone := decode_unassigned_iff_assigned.1 hd
      simp [WellFormed.assigned_iff.2 ⟨r, hr, hwr⟩] at hnone

/-! ## What the step makes of a fetched word -/

section FetchedWord

variable {s : State} {i : Instr} {w : Word}

theorem step_of_answered (hn : s.atBoundary.acceptedInterrupt = none) (hf : s.fetched.fetchAnswer = .answers) :
    step s = s.fetched.runWord s.fetched.fetchedWord :=
  (step_of_no_interrupt hn).trans (State.runFetched_answers hf)

/-- R105, R203, D6. -/
theorem State.runWord_unassigned (hw : decode w = .unassigned) : s.runWord w = .next (s.raise .illegalOperation) := by
  simp [State.runWord, hw]

/-- D5, `refuse`. -/
theorem State.runWord_mustBeZero_refuse (hw : decode w = .mustBeZero i) (hp : s.params.mbzPolicy = .refuse) :
    s.runWord w = .refused .mustBeZero := by
  simp [State.runWord, hw, hp]

/-- D5, `ignore`. -/
theorem State.runWord_mustBeZero_ignore (hw : decode w = .mustBeZero i) (hp : s.params.mbzPolicy = .ignore) :
    s.runWord w = exec i s := by
  simp [State.runWord, hw, hp]

/-- D5, `illegal`. -/
theorem State.runWord_mustBeZero_illegal (hw : decode w = .mustBeZero i) (hp : s.params.mbzPolicy = .illegal) :
    s.runWord w = .next (s.raise .illegalOperation) := by
  simp [State.runWord, hw, hp]

end FetchedWord

/-- Settles O9: the words of the two groups are the unassigned ones (`unassignedWordsAreTheTwoGroups`), which trap. -/
theorem unassignedWordTraps : Obligations.UnassignedWordTraps := by
  intro s hn hf hw
  have hd := (unassignedWordsAreTheTwoGroups _).2 hw
  exact ⟨_, (step_of_answered hn hf).trans (State.runWord_unassigned hd), s.fetched.trapTaken_raise .illegalOperation⟩

/-- Settles O10: the words by `decode_mustBeZero_iff`, and each value of the parameter by its own branch of the decoding. -/
theorem mustBeZeroWordsFollowThePolicy : Obligations.MustBeZeroWordsFollowThePolicy := by
  refine ⟨fun w i => decode_mustBeZero_iff, fun s i hn hf hd => ?policies⟩
  have hstep := step_of_answered hn hf
  refine ⟨fun hp => ?refuse, fun hp => ?ignore, fun hp => ?illegal⟩
  case refuse => exact hstep.trans (State.runWord_mustBeZero_refuse hd hp)
  case ignore => exact hstep.trans (State.runWord_mustBeZero_ignore hd hp)
  case illegal =>
    exact ⟨_, hstep.trans (State.runWord_mustBeZero_illegal hd hp), s.fetched.trapTaken_raise .illegalOperation⟩

/-! ## The run that has finished (R266, D21) -/

theorem run_succ_of_next {M : Host.Core} {s t : M.State} (h : M.step s = .next t) (k : Nat) :
    M.run (k + 1) s = M.run k t := by
  rw [Host.Core.run, h]

section Finished

variable {s : State}

/-- `ba #0` goes to itself, and changes nothing. -/
theorem exec_ba_zero (s : State) : exec (.ba 0) s = .next s := by
  have hjump : s.jump (offsetFrom s.pc (0 : BitVec 11)) = s := by rw [offsetFrom_zero]; rfl
  exact congrArg _ hjump

theorem State.idle_add (j k : Nat) (s : State) : (s.idle k).idle j = s.idle (k + j) := by
  induction k generalizing s with
  | zero => rw [Nat.zero_add]; rfl
  | succ k ih => rw [Nat.succ_add]; exact ih s.fetched

/-- What boundaries and fetches alone leave of the control registers, beside the fields of `State.idle_keeps`. -/
theorem State.idle_keeps_control (k : Nat) (s : State) :
    (s.idle k).epc = s.epc ∧ (s.idle k).epcSaved = s.epcSaved ∧ (s.idle k).ifaulthdl = s.ifaulthdl ∧
      (s.idle k).dfaulthdl = s.dfaulthdl ∧ (s.idle k).swihdl = s.swihdl ∧ (s.idle k).illophdl = s.illophdl ∧
      (s.idle k).privophdl = s.privophdl ∧ (s.idle k).exihdl = s.exihdl ∧ (s.idle k).umcpen = s.umcpen := by
  induction k generalizing s with
  | zero => exact ⟨rfl, rfl, rfl, rfl, rfl, rfl, rfl, rfl, rfl⟩
  | succ k ih => exact ih s.fetched

/-- Of STATUS, only the link may change at a boundary, and only to clear (R92, D15). -/
theorem State.idle_status (k : Nat) (s : State) :
    (s.idle k).status = { s.status with l := (s.idle k).status.l } ∧ ((s.idle k).status.l = true → s.status.l = true) := by
  induction k generalizing s with
  | zero => exact ⟨rfl, id⟩
  | succ k ih =>
    obtain ⟨hstatus, hlink⟩ := ih s.fetched
    refine ⟨hstatus, fun h => ?_⟩
    have hboth : (s.status.l && !s.sample.draws.llinval) = true := hlink h
    exact (Bool.and_eq_true_iff.1 hboth).1

theorem State.finished_idle (h : s.finished) (k : Nat) : (s.idle k).finished := by
  obtain ⟨hword, hmasked, hfetch⟩ := h
  obtain ⟨hpc, -, hienable, himem, -, he⟩ := State.idle_keeps k s
  refine ⟨?word, ?masked, fun j => ?fetch⟩
  case word => rwa [State.fetchedWord, hpc, himem]
  case masked =>
    rw [he, hienable]
    exact hmasked.imp id fun hnone j => by rw [State.idle_add]; exact hnone (k + j)
  case fetch => rw [State.idle_add]; exact hfetch (k + j)

/-- A finished state runs its `ba #0`: nothing is deliverable at its boundary, and its fetch is answered. -/
theorem State.finished_runs (h : s.finished) : s.runs (.ba 0) := by
  obtain ⟨hword, hmasked, hfetch⟩ := h
  have hdecode : decode 0x7800 = .ok (.ba 0) := decode_eq_ok_of_encode (by decide)
  exact ⟨(disabledOrMaskedInterruptsAreNotTaken s (hmasked.imp id fun hnone => hnone 0)).1, hfetch 0,
    .inl (hword ▸ hdecode)⟩

theorem State.finished_step (h : s.finished) : step s = .next s.fetched :=
  (step_of_runs (State.finished_runs h)).trans (exec_ba_zero _)

theorem State.finished_run (h : s.finished) (k : Nat) : Host.Core.run core k s = .next (s.idle k) := by
  induction k generalizing s with
  | zero => rfl
  | succ k ih => exact (run_succ_of_next (M := core) (State.finished_step h) k).trans (ih (State.finished_idle h 1))

end Finished

/-- Settles O13: the run by induction on the number of steps, each of which is the `ba #0`; the frame is that of boundaries and
fetches alone. -/
theorem finishedStateStays : Obligations.FinishedStateStays := by
  intro s k h
  obtain ⟨hpc, hregs, hienable, himem, -, -⟩ := State.idle_keeps k s
  obtain ⟨hepc, hsaved, hifault, hdfault, hswi, hillop, hprivop, hexi, humcpen⟩ := State.idle_keeps_control k s
  exact ⟨State.finished_run h k, State.finished_idle h k, hpc, hregs, hepc, hsaved, hifault, hdfault, hswi, hillop, hprivop,
    hexi, hienable, humcpen, himem, State.idle_status k s⟩

end Sys2Proof.Machine
end

section
/-! PROOFS. Arithmetic on three registers (spec/41_arithmetic.md R141 to R144): the optional overflow trap (D7), the carry and the
borrow as words (D12), and the exact sum they complete. -/

namespace Sys2Proof.Machine

/-! ## The overflow trap (R141, R142, D7) -/

theorem outsideSigned_iff {v : Int} : outsideSigned v = true ↔ v < -32768 ∨ 32767 < v := decide_eq_true_iff

/-- In range in the form the statements have it. -/
theorem outsideSigned_eq_false {v : Int} (h : -32768 ≤ v ∧ v ≤ 32767) : outsideSigned v = false := by
  rw [← Bool.not_eq_true, outsideSigned_iff]
  omega

section Trapping

variable {s : State} {overflows : Word → Word → Bool} {a b : Reg}

theorem op3Trapping_completes (h : s.params.overflowTrap = false ∨ overflows (s.reg a) (s.reg b) = false)
    (f : Word → Word → Word) (d : Reg) : op3Trapping overflows f d a b s = .next (s.writeNext d (f (s.reg a) (s.reg b))) := by
  rcases h with h | h <;> simp [op3Trapping, op3, h]

theorem op3Trapping_overflows (ht : s.params.overflowTrap = true) (ho : overflows (s.reg a) (s.reg b) = true)
    (f : Word → Word → Word) (d : Reg) : op3Trapping overflows f d a b s = .next (s.raise .arithmeticOverflow) := by
  simp [op3Trapping, ht, ho]

end Trapping

/-! ## Carry and borrow (R143, R144, D12) -/

theorem flagWord_toNat (c : Bool) : (flagWord c).toNat = if c then 1 else 0 := by cases c <;> rfl

/-- The carry is the seventeenth bit of the sum. -/
theorem flagWord_carryOut_toNat (x y : Word) : (flagWord (carryOut x y)).toNat = (x.toNat + y.toNat) / 2 ^ 16 := by
  have hx := x.isLt
  have hy := y.isLt
  simp only [flagWord_toNat, carryOut, decide_eq_true_iff]
  split <;> omega

theorem flagWord_borrowOut_toNat (x y : Word) :
    (flagWord (borrowOut x y)).toNat = if x.toNat < y.toNat then 1 else 0 := by
  simp [flagWord_toNat, borrowOut]

/-- Carry and sum together are the exact sum. -/
theorem carryOut_completes_sum (x y : Word) :
    (flagWord (carryOut x y)).toNat * 2 ^ 16 + (x + y).toNat = x.toNat + y.toNat := by
  rw [flagWord_carryOut_toNat, BitVec.toNat_add]
  exact Nat.div_add_mod' _ _

/-! ## The statements -/

/-- Settles O17, by whether the trap is on and the exact result out of range. -/
theorem addAndSub : Obligations.AddAndSub := by
  refine ⟨fun w hop => ⟨decode_op3 rfl hop, decode_op3 rfl hop⟩,
    fun d a b s => ⟨fun h => ?add, fun ⟨ht, ho⟩ => ?addTraps, fun h => ?sub, fun ⟨ht, ho⟩ => ?subTraps⟩⟩
  case add =>
    exact completesWriting_of (op3Trapping_completes (h.imp_right outsideSigned_eq_false) _ d) (BitVec.toNat_add _ _)
  case sub =>
    refine completesWriting_of (op3Trapping_completes (h.imp_right outsideSigned_eq_false) _ d) ?_
    rw [BitVec.toNat_sub, Nat.add_comm]
  case addTraps | subTraps =>
    exact ⟨_, op3Trapping_overflows ht (outsideSigned_iff.2 ho) _ d, s.trapTaken_raise .arithmeticOverflow⟩

/-- Settles O18: each meaning writes its flag as a word. -/
theorem carryAndBorrow : Obligations.CarryAndBorrow := by
  refine ⟨fun w hop => ⟨decode_op3 rfl hop, decode_op3 rfl hop⟩, fun d a b s => ⟨?addc, ?subc⟩⟩
  case addc => exact completesWriting_of rfl (flagWord_carryOut_toNat _ _)
  case subc => exact completesWriting_of rfl (flagWord_borrowOut_toNat _ _)

/-- Settles O20: the addc leaves the operands as they were and the add leaves the carry as it was, so both are of the same two
words. -/
theorem carryCompletesTheSum : Obligations.CarryCompletesTheSum := by
  rintro d e a b s _ hoff hda hdb hde ⟨⟩
  refine ⟨_, op3Trapping_completes (s := s.writeNext d _) (.inl hoff) _ e, ?_⟩
  simp only [State.reg_writeNext, if_neg hda.symm, if_neg hdb.symm, if_neg hde, if_true]
  exact carryOut_completes_sum _ _

end Sys2Proof.Machine
end

section
/-! PROOFS. Shifts by a register (spec/42_shift.md R150 to R153): the amount each value of `SHIFT_REG_AMOUNT` gives (D8), and the
values a long amount shifts to. -/

namespace Sys2Proof.Machine

/-! ## The amount (R150, D8) -/

/-- The amounts with a meaning: short ones under every policy, long ones whole under `full` and modulo 16 under `low4`. -/
theorem registerAmount_eq_some {policy : Config.ShiftAmount} {x : Word} {n : Nat}
    (h : (n = x.toNat ∧ (n < 16 ∨ policy = .full)) ∨ (n = x.toNat % 16 ∧ policy = .low4)) :
    registerAmount policy x = some n := by
  rcases h with ⟨rfl, hshort | rfl⟩ | ⟨rfl, rfl⟩
  · cases policy with
    | full => rfl
    | low4 => exact congrArg some (Nat.mod_eq_of_lt hshort)
    | refuse => exact if_pos hshort
  · rfl
  · rfl

theorem registerAmount_eq_none {policy : Config.ShiftAmount} {x : Word} (hlong : 16 ≤ x.toNat) (hp : policy = .refuse) :
    registerAmount policy x = none := by
  subst hp
  exact if_neg (Nat.not_lt.2 hlong)

section Shift

variable {s : State} {d b : Reg} {n : Nat}

theorem shiftByReg_some (h : registerAmount s.params.shiftAmount (s.reg b) = some n) (f : Word → Nat → Word) (d a : Reg) :
    shiftByReg f d a b s = .next (s.writeNext d (f (s.reg a) n)) := by
  simp [shiftByReg, h]

theorem shiftByReg_none (h : registerAmount s.params.shiftAmount (s.reg b) = none) (f : Word → Nat → Word) (d a : Reg) :
    shiftByReg f d a b s = .refused .shiftAmount := by
  simp [shiftByReg, h]

end Shift

/-! ## Long amounts (D8, `full`) -/

theorem shiftLeft_long {n : Nat} (hn : 16 ≤ n) (v : Word) : shiftLeft v n = 0 := BitVec.shiftLeft_eq_zero hn

theorem shiftRight_long {n : Nat} (hn : 16 ≤ n) (v : Word) : shiftRight v n = 0 := BitVec.ushiftRight_eq_zero hn

theorem shiftRightArith_long {n : Nat} (hn : 16 ≤ n) (v : Word) :
    shiftRightArith v n = if v.getLsbD 15 then 0xFFFF else 0x0000 := by
  rw [← BitVec.msb_eq_getLsbD_last v, shiftRightArith]
  cases hsign : v.msb with
  | true =>
    rw [BitVec.sshiftRight_eq_of_msb_true hsign, BitVec.ushiftRight_eq_zero hn]
    rfl
  | false => exact (BitVec.sshiftRight_eq_of_msb_false hsign).trans (BitVec.ushiftRight_eq_zero hn)

/-! ## The statements -/

/-- Settles O21, by the amount the parameter gives: a shift by that many places, or none. -/
theorem shiftsByARegister : Obligations.ShiftsByARegister := by
  refine ⟨fun w hop => ⟨decode_op3 rfl hop, decode_op3 rfl hop, decode_op3 rfl hop⟩,
    fun d a b s n => ⟨fun h => ?shifts, fun hlong hp => ?refuses⟩⟩
  case shifts =>
    have hn := registerAmount_eq_some h
    exact ⟨completesWriting_of (shiftByReg_some hn _ d a) (shiftLeft_toNat _ n),
      completesWriting_of (shiftByReg_some hn _ d a) (shiftRight_toNat _ n),
      completesWriting_of (shiftByReg_some hn _ d a) (shiftRightArith_toInt _ n)⟩
  case refuses =>
    have hnone := registerAmount_eq_none hlong hp
    exact ⟨shiftByReg_none hnone _ d a, shiftByReg_none hnone _ d a, shiftByReg_none hnone _ d a⟩

/-- Settles O22: under `full` the amount is the register's whole value, and past the word's width no bit of it is left but
bit 15. -/
theorem longShiftsUnderFull : Obligations.LongShiftsUnderFull := by
  intro d a b s hfull hlong
  have hn := registerAmount_eq_some (x := s.reg b) (.inl ⟨rfl, .inr hfull⟩)
  exact ⟨completesWriting_of (shiftByReg_some hn _ d a) (shiftLeft_long hlong _),
    completesWriting_of (shiftByReg_some hn _ d a) (shiftRight_long hlong _),
    completesWriting_of (shiftByReg_some hn _ d a) (shiftRightArith_long hlong _)⟩

end Sys2Proof.Machine
end

section
/-! PROOFS. Store operations (spec/44_load_store.md R173, R174) and the effective address (20_memory.md R78): what stw and sc do
where the controller refuses and where it is silent, and the frame of a completed store. -/

namespace Sys2Proof.Machine

/-! ## Refused and silent stores (R77, U9) -/

section Stores

variable {s : State} {v a : Reg} {off : BitVec 5}

/-- R173, the refused case. -/
theorem exec_stw_refuses (ha : s.dataAnswer (s.dataAddress a off) = .refuses) :
    exec (.stw v a off) s =
      .next (((s.emit (.dataWrite (s.dataAddress a off) (s.reg v))).setLink false).raise .dataFault) :=
  State.access_refuses ha _ _

/-- R173 with U9, the silent case. -/
theorem exec_stw_silent (ha : s.dataAnswer (s.dataAddress a off) = .silent) :
    exec (.stw v a off) s = .fault .dataBusSilent :=
  State.access_silent ha _ _

/-- With the link, `sc` is the data access of R174. -/
theorem exec_sc_linked (hl : s.status.l = true) : exec (.sc v a off) s =
    s.access (s.dataAddress a off)
      ((((s.emit (.dataWrite (s.dataAddress a off) (s.reg v))).storeWord (s.dataAddress a off) (s.reg v)).setLink
        false).writeNext v 1)
      (s.emit (.dataWrite (s.dataAddress a off) (s.reg v))) :=
  if_pos hl

/-- A link that is set already is set again for nothing. -/
theorem State.setLink_true (hl : s.status.l = true) : s.setLink true = s := by
  rw [State.setLink, ← hl]

/-- R174, the refused case: the link stays as it was, that is, set. -/
theorem exec_sc_refuses (hl : s.status.l = true) (ha : s.dataAnswer (s.dataAddress a off) = .refuses) :
    exec (.sc v a off) s =
      .next (((s.emit (.dataWrite (s.dataAddress a off) (s.reg v))).setLink true).raise .dataFault) := by
  rw [exec_sc_linked hl, State.access_refuses ha, State.setLink_true (s := s.emit _) hl]

/-- R174 with U9, the silent case. -/
theorem exec_sc_silent (hl : s.status.l = true) (ha : s.dataAnswer (s.dataAddress a off) = .silent) :
    exec (.sc v a off) s = .fault .dataBusSilent := by
  rw [exec_sc_linked hl, State.access_silent ha]

end Stores

/-! ## The statements -/

/-- Settles O29: the offset is sign-extended before the addition, which wraps. -/
theorem effectiveAddress : Obligations.EffectiveAddress := fun a off s => offsetFrom_toNat (s.reg a) off (by decide)

/-- Settles O31, by the three answers of the controller: the completed store is one word written after the request and the
clearing of the link; a refused one is the trap of `dataFaultTaken_raise`. -/
theorem storeWord : Obligations.StoreWord := by
  refine ⟨fun w => decode_mem rfl, fun v a off s => ⟨fun ha => ?answers, fun ha => ?refuses, exec_stw_silent⟩⟩
  case answers =>
    refine ⟨_, exec_stw_answers ha, ?stored, State.sameMemoryBut_write _ (s.reg v) rfl rfl, rfl, nextPc_toNat s.pc,
      ⟨rfl, rfl⟩, ?control, ?platform, rfl, rfl⟩
    case stored => exact (Memory.read_write _ _ _ _).trans (if_pos rfl)
    case control => simp [State.sameControl, State.sameHandlers]
    case platform => simp [State.samePlatform]
  case refuses => exact ⟨_, exec_stw_refuses ha, s.dataFaultTaken_raise false _⟩

/-- Settles O32, by the link and the controller's answer: a register write without the link; with it a store and a register write,
or the trap of `dataFaultTaken_raise` with the link as it was. -/
theorem storeConditional : Obligations.StoreConditional := by
  refine ⟨fun w => decode_mem rfl, fun v a off s =>
    ⟨fun hl => ?unlinked, fun hl ha => ?answers, fun hl ha => ?refuses, exec_sc_silent⟩⟩
  case unlinked => exact completesWriting_of (exec_sc_unlinked hl) rfl
  case answers =>
    refine ⟨_, exec_sc_answers hl ha, ?register, ?stored, State.sameMemoryBut_write _ (s.reg v) rfl rfl, rfl,
      nextPc_toNat s.pc, State.sameRegsBut_setReg _ v _, ?control, ?platform, rfl, rfl⟩
    case register => rw [State.reg_writeNext, if_pos rfl]
    case stored => exact (Memory.read_write _ _ _ _).trans (if_pos rfl)
    case control => simp [State.sameControl, State.sameHandlers]
    case platform => simp [State.samePlatform]
  case refuses => exact ⟨_, exec_sc_refuses hl ha, s.dataFaultTaken_raise true _⟩

end Sys2Proof.Machine
end

section
/-! PROOFS. STATUS as a word (spec/10_state.md R31, R38). -/

namespace Sys2Proof.Machine

/-! ## A bit as a field of its own -/

theorem extract_bit {n : Nat} (w : BitVec n) (k : Nat) : w.extractLsb' k 1 = BitVec.ofBool (w.getLsbD k) := by
  apply BitVec.eq_of_getLsbD_eq
  intro j hj
  obtain rfl : j = 0 := by omega
  simp

section TopBit

variable {n : Nat} (b : Bool) (x : BitVec n)

theorem getLsbD_ofBool_append_top : (BitVec.ofBool b ++ x).getLsbD n = b := by
  rw [getLsbD_ofBool_append, if_neg (Nat.lt_irrefl n), decide_eq_true rfl, Bool.true_and]

theorem getLsbD_ofBool_append_below {k : Nat} (hk : k < n) : (BitVec.ofBool b ++ x).getLsbD k = x.getLsbD k := by
  rw [getLsbD_ofBool_append, if_pos hk]

end TopBit

/-! ## The places of R31 -/

namespace Status

variable (t : Status)

theorem toWord_m : t.toWord.getLsbD 15 = t.m := getLsbD_ofBool_append_top _ _

theorem toWord_e : t.toWord.getLsbD 14 = t.e :=
  (getLsbD_ofBool_append_below _ _ (by decide)).trans (getLsbD_ofBool_append_top _ _)

theorem toWord_u : t.toWord.getLsbD 13 = t.u := by
  iterate 2 refine (getLsbD_ofBool_append_below _ _ (by decide)).trans ?_
  exact getLsbD_ofBool_append_top _ _

theorem toWord_l : t.toWord.getLsbD 12 = t.l := by
  iterate 3 refine (getLsbD_ofBool_append_below _ _ (by decide)).trans ?_
  exact getLsbD_ofBool_append_top _ _

theorem toWord_s : t.toWord.getLsbD 11 = t.s := by
  iterate 4 refine (getLsbD_ofBool_append_below _ _ (by decide)).trans ?_
  exact getLsbD_ofBool_append_top _ _

theorem toWord_a : t.toWord.extractLsb' 0 11 = t.a := by
  unfold toWord
  iterate 5 refine (extract_low _ _ 0 11 (by decide)).trans ?_
  exact BitVec.extractLsb'_eq_self

theorem ofWord_toWord : ofWord t.toWord = t := by
  rw [ofWord, toWord_m, toWord_e, toWord_u, toWord_l, toWord_s, toWord_a]

/-- The sixteen bits are put together again from the argument up, one bit at a time. -/
theorem toWord_ofWord (w : Word) : (ofWord w).toWord = w := by
  have hs := extract_eq_append rfl (extract_bit w 11) (rfl : w.extractLsb' 0 11 = (ofWord w).a)
  have hl := extract_eq_append rfl (extract_bit w 12) hs
  have hu := extract_eq_append rfl (extract_bit w 13) hl
  have he := extract_eq_append rfl (extract_bit w 14) hu
  have hm := extract_eq_append rfl (extract_bit w 15) he
  exact hm.symm.trans BitVec.extractLsb'_eq_self

end Status

/-- Settles O41: the place of each field, from which both ways round follow. -/
theorem statusLayout : Obligations.StatusLayout :=
  ⟨fun t => ⟨t.toWord_m, t.toWord_e, t.toWord_u, t.toWord_l, t.toWord_s, t.toWord_a⟩, Status.toWord_ofWord,
    Status.ofWord_toWord⟩

end Sys2Proof.Machine
end

section
/-! PROOFS. Coprocessor and control-register instructions (spec/45_coprocessor_control.md R180 to R189): the enable check, an access
that reaches no device, and the control registers as `mfctl` reads them and `mtctl` writes them. -/

namespace Sys2Proof.Machine

/-! ## Decoding (R101) -/

theorem decode_cp {w : Word} {op : BitVec 5} {i : Instr}
    (hi : encode i = encodeOp2 op (regField w 8) (CpNum.ofBits (w.extractLsb' 5 3)).bits (w.extractLsb' 0 5))
    (hop : opcodeOf w = op) : decode w = .ok i :=
  decode_eq_ok_of_encode (hi.trans (encodeOp2_of_fields (congrArg _ hop) (CpNum.bits_ofBits _)))

theorem decode_ctl {w : Word} {op : BitVec 5} {i : Instr}
    (hi : encode i = encodeOp2 op (regField w 8) 0 (CtlReg.ofBits (w.extractLsb' 0 5)).bits)
    (hop : opcodeOf w = op) (hzero : w.extractLsb' 5 3 = 0) : decode w = .ok i := by
  rw [CtlReg.bits_ofBits] at hi
  exact decode_eq_ok_of_encode (hi.trans (encodeOp2_of_fields (congrArg _ hop) hzero.symm))

/-! ## The enable check (R183) and accesses that reach no device (R180 to R182) -/

section Access

variable {s : State} {n : CpNum}

theorem State.checked_denied (hm : s.status.m = true) (hn : numberedBit s.umcpen n = false) (completed : State) :
    s.checked n completed = .next (s.raise (.coprocessorDisabled n)) := by
  simp [State.checked, State.coprocessorDenied, hm, hn]

theorem State.cpReadValue_unattached (h : ∀ d, s.nvram = some d → d.number ≠ n) (k : BitVec 5) :
    s.cpReadValue n k = s.now.draws.cvali := by
  cases hd : s.nvram with
  | none => simp [State.cpReadValue, hd]
  | some d => simp [State.cpReadValue, hd, h d hd]

/-- A device with another number takes nothing. -/
theorem map_select_unattached {dev : Option Nvram} (h : ∀ d, dev = some d → d.number ≠ n) (f : Nvram → Nvram) :
    dev.map (Nvram.select n f) = dev := by
  cases dev with
  | none => rfl
  | some d => exact congrArg some (if_neg (h d rfl))

end Access

/-! ## Control registers (R187, R188) -/

section Control

variable (s : State)

theorem State.readCtl_ienable_getLsbD {k : Nat} (hk : k < 8) : (s.readCtl .ienable).getLsbD k = s.ienable.getLsbD k := by
  rw [State.readCtl, joinHalves_getLsbD, if_pos hk, lowHalf_getLsbD hk]

theorem State.readCtl_umcpen_getLsbD {k : Nat} (hk : k < 8) : (s.readCtl .umcpen).getLsbD k = s.umcpen.getLsbD k := by
  rw [State.readCtl, joinHalves_getLsbD, if_pos hk, lowHalf_getLsbD hk]

theorem State.readCtl_ipend_getLsbD (n : CpNum) : (s.readCtl .ipend).getLsbD n.bits.toNat = s.pin n := by
  rw [State.readCtl, joinHalves_getLsbD, if_pos n.bits.isLt, State.pins_getLsbD]

theorem State.writeCtl_xu_get (c : CtlReg) (v : Word) (r : Reg) :
    (s.writeCtl c v).xu.get r = if c = .user r then v else s.xu.get r := by
  cases c with
  | user q => exact (Bank.get_set _ _ _ _).trans (if_congr (by rw [CtlReg.user.injEq, eq_comm]) rfl rfl)
  | _ => rfl

theorem State.writeCtl_exihdl_get (c : CtlReg) (v : Word) (n : CpNum) :
    (s.writeCtl c v).exihdl.get n = if c = .exihdl n then v else s.exihdl.get n := by
  cases c with
  | exihdl m => exact (Handlers.get_set _ _ _ _).trans (if_congr (by rw [CtlReg.exihdl.injEq, eq_comm]) rfl rfl)
  | _ => rfl

theorem State.writeCtl_status_toWord (c : CtlReg) (v : Word) :
    (s.writeCtl c v).status.toWord = if c = .status then v else s.status.toWord := by
  rw [State.writeCtl_status, apply_ite Status.toWord, Status.toWord_ofWord]

variable {s}

/-- In supervisor mode `x[r]` is the supervisor bank's register (R21). -/
theorem State.reg_supervisor (hm : s.status.m = false) (r : Reg) : s.reg r = s.xs.get r := by
  simp [State.reg, hm]

end Control

/-! ## The statements -/

/-- Settles O37: where the access is allowed, each instruction is its one request and the next `pc`. -/
theorem coprocessorAccess : Obligations.CoprocessorAccess := by
  refine ⟨fun w => ⟨decode_cp rfl, decode_cp rfl, fun hop hzero => decode_cp (congrArg (encodeOp2 _ _ _) hzero.symm) hop⟩,
    fun r n k s hallowed => ⟨?mfcp, ?mtcp, ?cpop⟩⟩
  case mfcp =>
    have hread : ((s.emit (.cpRead n k)).writeNext r (s.cpReadValue n k)).reg r = s.cpReadValue n k := by
      rw [State.reg_writeNext, if_pos rfl]
    refine ⟨_, State.checked_allowed hallowed _, hread, fun h => hread.trans (State.cpReadValue_unattached h k),
      nextPc_toNat s.pc, State.sameRegsBut_setReg _ r _, rfl, ?control, State.sameMemory_of rfl rfl, ?platform, rfl, rfl⟩
    case control => simp [State.sameControl, State.sameHandlers]
    case platform => simp [State.samePlatform]
  case mtcp | cpop =>
    refine ⟨_, State.checked_allowed hallowed _, rfl, fun h => map_select_unattached h _, nextPc_toNat s.pc, ⟨rfl, rfl⟩, rfl,
      ?control, State.sameMemory_of rfl rfl, ?platform⟩
    case control => simp [State.sameControl, State.sameHandlers]
    case platform => simp [State.samePlatform]

/-- Settles O38: the three instructions make the same check before anything else. -/
theorem deniedCoprocessorAccessTraps : Obligations.DeniedCoprocessorAccessTraps := by
  rintro r n k s _ hm hn (rfl | rfl | rfl)
  all_goals exact ⟨_, State.checked_denied hm hn _, s.trapTaken_raise (.coprocessorDisabled n)⟩

/-- Settles O39: the value written is `State.readCtl`, register by register. -/
theorem moveFromControl : Obligations.MoveFromControl := by
  refine ⟨fun w => decode_ctl rfl, fun d c s hm => completesWriting_of (State.privileged_supervisor hm _)
    ⟨?user, ?epc, ?saved, ?status, ?ifault, ?dfault, ?swi, ?illop, ?privop, ?exi, ?counterLo, ?counterHi, ?ienable,
      ?umcpen, ?ipend⟩⟩
  case ienable =>
    rintro rfl k hk
    exact s.readCtl_ienable_getLsbD hk
  case umcpen =>
    rintro rfl k hk
    exact s.readCtl_umcpen_getLsbD hk
  case ipend =>
    rintro rfl n
    exact s.readCtl_ipend_getLsbD n
  case user | exi =>
    rintro _ rfl
    rfl
  all_goals
    rintro rfl
    rfl

/-- Settles O40: the next state is the write of R188 and the next `pc`; the write by the field lemmas of `State.writeCtl`. -/
theorem moveToControl : Obligations.MoveToControl := by
  refine ⟨fun w => decode_ctl rfl, fun src c s hm => ⟨_, State.privileged_supervisor hm _, ?_⟩⟩
  rw [State.reg_supervisor hm]
  refine ⟨?pc, s.writeCtl_xs c _, s.writeCtl_xu_get c _, s.writeCtl_epc c _, s.writeCtl_epcSaved c _,
    s.writeCtl_status_toWord c _, s.writeCtl_ifaulthdl c _, s.writeCtl_dfaulthdl c _, s.writeCtl_swihdl c _,
    s.writeCtl_illophdl c _, s.writeCtl_privophdl c _, s.writeCtl_exihdl_get c _, s.writeCtl_ienable c _,
    s.writeCtl_umcpen c _, s.writeCtl_counterLo c _, s.writeCtl_counterHi c _, s.writeCtl_events c _, ?memory, ?platform,
    s.writeCtl_nvram c _⟩
  case pc => rw [State.pcAdvanced, State.advance_pc, State.writeCtl_pc, nextPc_toNat]
  case memory => exact State.sameMemory_of (s.writeCtl_dmem c _) (s.writeCtl_imem c _)
  case platform => simp [State.samePlatform]

end Sys2Proof.Machine
end
